-- ==== Sys2Proof/Word.lean ====
section
/-! DEFINITION. Word widths and the small fixed sets of names that the syntax and the state share
(00_scope.md R6, R8; 10_state.md R13, R23, R31; 30_encoding.md R61). -/

namespace Sys2Proof

/-- One byte of a packet (20_memory.md R40). -/
abbrev Byte := BitVec 8

/-- A 32-bit register, timestamp or duration in microseconds (00_scope.md R6 `W_T`). -/
abbrev U32 := BitVec 32

/-- The interval kinds, in the enumeration order of 30_encoding.md R61. The classifier's answer Unknown is
`none : Option Kind`. -/
inductive Kind where
  | syncGap | pulse | short | long | sync | gap
deriving DecidableEq, Repr

/-- The packet variants of `PVCFG` bits [1:0] (10_state.md R23); the value 3 cannot be stored (R23, 30_encoding.md R76),
so it has no name here. -/
inductive Variant where
  | v40 | v48 | v80
deriving DecidableEq, Repr

/-- The checksum function of the 80-bit variant, `PVCFG` bit 2 (10_state.md R23). -/
inductive ChkMode where
  | additive | crc8
deriving DecidableEq, Repr

/-- One value per interval kind: `NOMINAL`, `TOL`, `T` (10_state.md R16, R20, R27). -/
structure PerKind (α : Type) where
  syncGap : α
  pulse : α
  short : α
  long : α
  sync : α
  gap : α
deriving DecidableEq, Repr

/-- The same value for every kind. -/
def PerKind.all {α : Type} (a : α) : PerKind α :=
  { syncGap := a, pulse := a, short := a, long := a, sync := a, gap := a }

end Sys2Proof
end

