-- ==== Sys2Proof/Syntax.lean ====
section
/-! DEFINITION. The operations of the block, one constructor for each row of spec/opcode_table.json, and the words
that arrive on the block's ports (30_encoding.md R60 to R66, R75). -/

namespace Sys2Proof

/-- The operations (30_encoding.md R75). Bits that the spec ignores are no operand. -/
inductive Instr where
  /-- EDGE (42_classifier.md R120): `level` after the transition, timestamp `ts`. -/
  | edge (level : Bool) (ts : U32)
  /-- EV_PULSE (43_decoder.md R138). -/
  | evPulse (dur : U32)
  /-- EV_IV_SYNCGAP (43_decoder.md R140). -/
  | evIvSyncGap (dur : U32)
  /-- EV_IV_PULSE (43_decoder.md R146). -/
  | evIvPulse (dur : U32)
  /-- EV_IV_SHORT (43_decoder.md R142). -/
  | evIvShort (dur : U32)
  /-- EV_IV_LONG (43_decoder.md R143). -/
  | evIvLong (dur : U32)
  /-- EV_IV_SYNC (43_decoder.md R141). -/
  | evIvSync (dur : U32)
  /-- EV_IV_GAP (43_decoder.md R144). -/
  | evIvGap (dur : U32)
  /-- EV_IV_UNKNOWN (43_decoder.md R147). -/
  | evIvUnknown (dur : U32)
  /-- EV_WD (43_decoder.md R145); its duration field is not read. -/
  | evWd
  /-- Event type 0b0110 (30_encoding.md R76). -/
  | evReserved6 (dur : U32)
  /-- Event type 0b1010 (30_encoding.md R76). -/
  | evReservedA (dur : U32)
  /-- Event type 0b1011 (30_encoding.md R76). -/
  | evReservedB (dur : U32)
  /-- Event type 0b1100 (30_encoding.md R76). -/
  | evReservedC (dur : U32)
  /-- Event type 0b1101 (30_encoding.md R76). -/
  | evReservedD (dur : U32)
  /-- Event type 0b1110 (30_encoding.md R76). -/
  | evReservedE (dur : U32)
  /-- Event type 0b1111 (30_encoding.md R76). -/
  | evReservedF (dur : U32)
  /-- CFG_WRITE (45_host_control.md R195); well-formed only with `reg` not 0x00. -/
  | cfgWrite (reg : Byte) (data : U32)
  /-- CFG_READ (45_host_control.md R196). -/
  | cfgRead (reg : Byte)
  /-- LOCK, command 1 (45_host_control.md R198). -/
  | lock
  /-- RX_START, command 2 (45_host_control.md R199). -/
  | rxStart
  /-- RX_CANCEL, command 3 (45_host_control.md R200). -/
  | rxCancel
  /-- ENCODE, command 4 (41_encoder.md R100). -/
  | encode
  /-- TX_CANCEL, command 5 (45_host_control.md R201). -/
  | txCancel
  /-- CAL_LOAD, command 6 (40_calibrator.md R90). -/
  | calLoad
  /-- CAL_FAIL, command 7 (40_calibrator.md R92). -/
  | calFail
  /-- VALIDATE, command 8 (44_validator.md R170). -/
  | validate
  /-- FRAME with `VARIANT = V40`, command 9 (44_validator.md R182). -/
  | frameV40
  /-- FRAME with `VARIANT = V48`, command 9 (44_validator.md R183). -/
  | frameV48
  /-- FRAME with `VARIANT = V80`, command 9 (44_validator.md R184). -/
  | frameV80
  /-- CLASSIFY, command 10 (42_classifier.md R122). -/
  | classify
  /-- A reserved command code: 0 or 11 to 255 (10_state.md R17, 30_encoding.md R76). -/
  | cmdReserved (code : Byte)
  /-- SEQ_STEP (41_encoder.md R105); internal, it has no word. -/
  | seqStep
  /-- RESET (70_reset_and_hazards.md R250); a dedicated input, it has no word. -/
  | reset
deriving DecidableEq, Repr

/-- Where an input arrives: the edge port of the receive front end, the event port of the decoder, the register port
of the HOST, the internal turn of the sequencer, the reset input. -/
inductive Port where
  | edge | event | host | seq | resetLine
deriving DecidableEq, Repr

/-- A word on its port, in the widths of 30_encoding.md R62, R63 and R65. The sequencer's turn and the reset input
carry no bits. -/
inductive PortWord where
  /-- 33 bits: level, timestamp (R62). -/
  | edge (w : BitVec 33)
  /-- 36 bits: event type, duration (R63). -/
  | event (w : BitVec 36)
  /-- 41 bits: write flag, register number, data (R65). -/
  | host (w : BitVec 41)
  /-- A turn given to the sequencer. -/
  | seqTurn
  /-- The reset input asserted. -/
  | resetLine
deriving DecidableEq, Repr

end Sys2Proof
end

