-- ==== Sys2Proof/WellFormed.lean ====
section
/-! DEFINITION. Which terms of `Instr` stand for a word of the encoding (30_encoding.md R65, R66, R75, R76). -/

namespace Sys2Proof

/-- A write to register 0x00 is a command and no CFG_WRITE (R66, R75); the reserved command codes are 0 and 11 to 255
(R76). Every other operand takes every value of its width. -/
def WellFormed : Instr → Bool
  | .cfgWrite reg _ => reg != 0x00#8
  | .cmdReserved code => code == 0x00#8 || decide (11 ≤ code.toNat)
  | .edge _ _ | .evPulse _ | .evIvSyncGap _ | .evIvPulse _ | .evIvShort _ | .evIvLong _ | .evIvSync _
  | .evIvGap _ | .evIvUnknown _ | .evWd | .evReserved6 _ | .evReservedA _ | .evReservedB _ | .evReservedC _
  | .evReservedD _ | .evReservedE _ | .evReservedF _ | .cfgRead _ | .lock | .rxStart | .rxCancel | .encode
  | .txCancel | .calLoad | .calFail | .validate | .frameV40 | .frameV48 | .frameV80 | .classify | .seqStep
  | .reset => true

/-- The condition of the three FRAME rows of the table: the word of command 9 stands for the row of the configured
variant. Every other operation is selected under every variant. -/
def SelectedBy (v : Variant) : Instr → Bool
  | .frameV40 => v == .v40
  | .frameV48 => v == .v48
  | .frameV80 => v == .v80
  | .cfgWrite _ _ | .cmdReserved _ | .edge _ _ | .evPulse _ | .evIvSyncGap _ | .evIvPulse _ | .evIvShort _
  | .evIvLong _ | .evIvSync _ | .evIvGap _ | .evIvUnknown _ | .evWd | .evReserved6 _ | .evReservedA _
  | .evReservedB _ | .evReservedC _ | .evReservedD _ | .evReservedE _ | .evReservedF _ | .cfgRead _ | .lock
  | .rxStart | .rxCancel | .encode | .txCancel | .calLoad | .calFail | .validate | .classify | .seqStep
  | .reset => true

end Sys2Proof
end

