-- ==== Sys2Proof/Decode.lean ====
section
/-! DEFINITION. From the bits on a port to the operation they select, and back (30_encoding.md R62 to R66, R75, R76). -/

namespace Sys2Proof

/-- Why bytes offered to a port are no word of it. -/
inductive BadWord where
  /-- The number of bytes is not that of the port's word. -/
  | wrongLength (got : Nat)
  /-- A bit above the port's width is set. -/
  | bitsAboveWidth
deriving DecidableEq, Repr

/-- The operation of the command code `c` (10_state.md R17); command 9 is the row of the configured variant
(44_validator.md R182 to R184). -/
def decodeCommand (v : Variant) (c : Byte) : Instr :=
  match c.toNat with
  | 1 => .lock
  | 2 => .rxStart
  | 3 => .rxCancel
  | 4 => .encode
  | 5 => .txCancel
  | 6 => .calLoad
  | 7 => .calFail
  | 8 => .validate
  | 9 => match v with
    | .v40 => .frameV40
    | .v48 => .frameV48
    | .v80 => .frameV80
  | 10 => .classify
  | _ => .cmdReserved c

/-- The operation of the event type `t` with duration `d` (30_encoding.md R63, R76). -/
def decodeEvent (t : BitVec 4) (d : U32) : Instr :=
  match t.toNat with
  | 0 => .evIvSyncGap d
  | 1 => .evIvPulse d
  | 2 => .evIvShort d
  | 3 => .evIvLong d
  | 4 => .evIvSync d
  | 5 => .evIvGap d
  | 6 => .evReserved6 d
  | 7 => .evIvUnknown d
  | 8 => .evPulse d
  | 9 => .evWd
  | 10 => .evReservedA d
  | 11 => .evReservedB d
  | 12 => .evReservedC d
  | 13 => .evReservedD d
  | 14 => .evReservedE d
  | _ => .evReservedF d

/-- The operation that a word selects under the variant `v`. It is total: every word of a port has a meaning, the
reserved ones included (30_encoding.md R76). -/
def decode (v : Variant) : PortWord → Instr
  | .edge w => .edge (w.getLsbD 32) (w.extractLsb' 0 32)
  | .event w => decodeEvent (w.extractLsb' 32 4) (w.extractLsb' 0 32)
  | .host w =>
    if w.getLsbD 40 then
      if w.extractLsb' 32 8 = 0x00#8 then decodeCommand v (w.extractLsb' 0 8)
      else .cfgWrite (w.extractLsb' 32 8) (w.extractLsb' 0 32)
    else .cfgRead (w.extractLsb' 32 8)
  | .seqTurn => .seqStep
  | .resetLine => .reset

/-- The port's word in bits (30_encoding.md R62, R63, R65); 0 where the port carries none. -/
def Port.width : Port → Nat
  | .edge => 33
  | .event => 36
  | .host => 41
  | .seq => 0
  | .resetLine => 0

/-- The number written in the bytes, the first byte least significant: spec/opcode_table.json's numbering (log 7). -/
def natOfBytes : List Byte → Nat
  | [] => 0
  | b :: bs => b.toNat + 256 * natOfBytes bs

/-- The `n` low bytes of a number, the least significant first (log 7). -/
def bytesOfNat : Nat → Nat → List Byte
  | 0, _ => []
  | n + 1, w => BitVec.ofNat 8 w :: bytesOfNat n (w / 256)

/-- How many bytes carry the port's word. -/
def Port.numBytes (p : Port) : Nat := (p.width + 7) / 8

/-- The word of port `p` whose bits are the number `w`. -/
def wordOfNat (p : Port) (w : Nat) : PortWord :=
  match p with
  | .edge => .edge (BitVec.ofNat 33 w)
  | .event => .event (BitVec.ofNat 36 w)
  | .host => .host (BitVec.ofNat 41 w)
  | .seq => .seqTurn
  | .resetLine => .resetLine

/-- The word that bytes offered to a port stand for, or the name of what is wrong with them. -/
def wordOfBytes (p : Port) (bs : List Byte) : Except BadWord PortWord :=
  if bs.length ≠ p.numBytes then .error (.wrongLength bs.length)
  else if 2 ^ p.width ≤ natOfBytes bs then .error .bitsAboveWidth
  else .ok (wordOfNat p (natOfBytes bs))

/-- Decoding of any bytes on a port. -/
def decodeBytes (v : Variant) (p : Port) (bs : List Byte) : Except BadWord Instr :=
  match wordOfBytes p bs with
  | .ok w => .ok (decode v w)
  | .error e => .error e

/-- The event word of type `t` and duration `d` (30_encoding.md R63). -/
def eventWord (t : BitVec 4) (d : U32) : PortWord := .event (t ++ d)

/-- The host access word of command `c`, its ignored bits 0 (30_encoding.md R66). -/
def commandWord (c : Byte) : PortWord := .host (1#1 ++ 0x00#8 ++ 0#24 ++ c)

/-- The word of an operation: its port and its bits (30_encoding.md R62 to R66), ignored bits 0. -/
def encode : Instr → PortWord
  | .edge level ts => .edge (BitVec.ofBool level ++ ts)
  | .evIvSyncGap d => eventWord 0b0000#4 d
  | .evIvPulse d => eventWord 0b0001#4 d
  | .evIvShort d => eventWord 0b0010#4 d
  | .evIvLong d => eventWord 0b0011#4 d
  | .evIvSync d => eventWord 0b0100#4 d
  | .evIvGap d => eventWord 0b0101#4 d
  | .evReserved6 d => eventWord 0b0110#4 d
  | .evIvUnknown d => eventWord 0b0111#4 d
  | .evPulse d => eventWord 0b1000#4 d
  | .evWd => eventWord 0b1001#4 0#32
  | .evReservedA d => eventWord 0b1010#4 d
  | .evReservedB d => eventWord 0b1011#4 d
  | .evReservedC d => eventWord 0b1100#4 d
  | .evReservedD d => eventWord 0b1101#4 d
  | .evReservedE d => eventWord 0b1110#4 d
  | .evReservedF d => eventWord 0b1111#4 d
  | .cfgWrite reg data => .host (1#1 ++ reg ++ data)
  | .cfgRead reg => .host (0#1 ++ reg ++ 0#32)
  | .lock => commandWord 1#8
  | .rxStart => commandWord 2#8
  | .rxCancel => commandWord 3#8
  | .encode => commandWord 4#8
  | .txCancel => commandWord 5#8
  | .calLoad => commandWord 6#8
  | .calFail => commandWord 7#8
  | .validate => commandWord 8#8
  | .frameV40 => commandWord 9#8
  | .frameV48 => commandWord 9#8
  | .frameV80 => commandWord 9#8
  | .classify => commandWord 10#8
  | .cmdReserved code => commandWord code
  | .seqStep => .seqTurn
  | .reset => .resetLine

/-- The port of a word. -/
def PortWord.port : PortWord → Port
  | .edge _ => .edge
  | .event _ => .event
  | .host _ => .host
  | .seqTurn => .seq
  | .resetLine => .resetLine

/-- The bits of a word as a number. -/
def PortWord.bits : PortWord → Nat
  | .edge w => w.toNat
  | .event w => w.toNat
  | .host w => w.toNat
  | .seqTurn => 0
  | .resetLine => 0

/-- The bytes of a word on its port. -/
def bytesOfWord (w : PortWord) : List Byte := bytesOfNat w.port.numBytes w.bits

/-- The port and the bytes of an operation's word. -/
def encodeBytes (i : Instr) : Port × List Byte := ((encode i).port, bytesOfWord (encode i))

/-- The port of a table row from the number of bits the table gives it, as it stands (33, 36, 41) or in whole bytes
(40, 48). Edge and event words both fill five bytes; 40 bits are read on the event port (log 7). A row of no bits
(SEQ_STEP, RESET) has no word. -/
def tablePort (nbits : Nat) : Option Port :=
  match nbits with
  | 33 => some .edge
  | 36 => some .event
  | 40 => some .event
  | 41 => some .host
  | 48 => some .host
  | _ => none

/-- The word that the host's table question asks about. -/
def tableWord (nbits w : Nat) : Option PortWord :=
  match tablePort nbits with
  | some p =>
    match wordOfBytes p (bytesOfNat ((nbits + 7) / 8) w) with
    | .ok pw => if w < 2 ^ nbits then some pw else none
    | .error _ => none
  | none => none

/-- What the decoder reads from a table row's bits, under the variant that holds after reset (V40, 10_state.md R33;
log 6). -/
def decodeTableWord (nbits w : Nat) : Option Instr :=
  match tableWord nbits w with
  | some pw => some (decode .v40 pw)
  | none => none

end Sys2Proof
end

