-- ==== Sys2Proof/Config.lean ====
section
/-! DEFINITION. What a deployment fixes and the block does not hold in registers (00_scope.md R6, 10_state.md R32):
the encoder's operand limits and the pluggable CRC8 function. -/

namespace Sys2Proof

/-- The parameters of 00_scope.md R6 that are arguments of the block and no register of it. They never change while
the block runs (log 9, log 10). -/
structure Deployment where
  /-- `BITS_MIN`: least legal `TX_BITS` of ENCODE. -/
  bitsMin : Nat
  /-- `BITS_MAX`: greatest legal `TX_BITS` of ENCODE. -/
  bitsMax : Nat
  /-- `REPEATS_MIN`: least legal `TX_REPEATS` of ENCODE. -/
  repeatsMin : Nat
  /-- `REPEATS_MAX`: greatest legal `TX_REPEATS` of ENCODE. -/
  repeatsMax : Nat
  /-- Whether the deployment plugs in a `crc8` of its own in place of the default body (00_scope.md R4, R6). -/
  crcPlugged : Bool
deriving DecidableEq, Repr

/-- The defaults of 00_scope.md R6: 5 to 64 data bits, 1 to 99 repeats, the default `crc8`. -/
def Deployment.default : Deployment :=
  { bitsMin := 5, bitsMax := 64, repeatsMin := 1, repeatsMax := 99, crcPlugged := false }

/-- The constraint that 92_eei_decisions.md D12 puts on the limits. -/
def Deployment.Legal (d : Deployment) : Prop :=
  1 ≤ d.bitsMin ∧ d.bitsMin ≤ d.bitsMax ∧ d.bitsMax ≤ 80 ∧
  1 ≤ d.repeatsMin ∧ d.repeatsMin ≤ d.repeatsMax ∧ d.repeatsMax ≤ 127

/-- The CRC8 function a deployment plugs in: bytes, polynomial, initial value. It has no body, so a claim about it
holds for every function (00_scope.md R4 "treated as a pluggable checksum primitive"; log 10). -/
opaque Config.pluggedCrc8 : List Byte → Byte → Byte → Byte

end Sys2Proof
end

