-- ==== Sys2Proof/Machine/State.lean ====
section
/-! DEFINITION. The state of one instance of the block (10_state.md R10), its reset value (R33), and the reasons a
step can stop. -/

namespace Sys2Proof.Machine

/-- The session phase (10_state.md R31); the code 3 is never taken. -/
inductive Session where
  | config | running | halted
deriving DecidableEq, Repr

/-- The decoder's `state` (10_state.md R13). -/
inductive DecState where
  | syncWait | dataCollect
deriving DecidableEq, Repr

/-- The decoder's `phase` (10_state.md R13). -/
inductive Phase where
  | expectPulse | expectInterval
deriving DecidableEq, Repr

/-- The encoder's `enc_state` (10_state.md R14). -/
inductive EncState where
  | idle | busy
deriving DecidableEq, Repr

/-- The sequencer's `step`: S_P1, S_SG1, S_P2, S_SG2, S_P3, S_SY, S_BP, S_BG, S_TP, S_TG (10_state.md R14); the codes
10 to 15 are never taken. -/
inductive SeqPos where
  | p1 | sg1 | p2 | sg2 | p3 | sy | bp | bg | tp | tg
deriving DecidableEq, Repr

/-- The five error kinds (60_exceptions.md R220). -/
inductive ErrorKind where
  | calibrationFailure | protocolViolation | lengthMismatch | checksumFailure | configurationError
deriving DecidableEq, Repr

/-- The configuration registers (10_state.md R20, R21, R23), constant after LOCK. -/
structure Cfg where
  /-- `NOMINAL[k]`, µs. -/
  nominal : PerKind U32
  /-- `TOL[k]`, whole percent. -/
  tol : PerKind (BitVec 7)
  /-- `EXPECTED_BITS`. -/
  expectedBits : BitVec 7
  /-- `WD_US`, µs. -/
  wdUs : U32
  /-- `PVCFG` bits [1:0]. -/
  variant : Variant
  /-- `PVCFG` bit 2. -/
  chkMode : ChkMode
  /-- `PVCFG` bits [15:8]. -/
  crcPoly : Byte
  /-- `PVCFG` bits [23:16]. -/
  crcInit : Byte
  /-- `MARKERS` bits [7:0]. -/
  marker4 : Byte
  /-- `MARKERS` bits [15:8]. -/
  marker5 : Byte
deriving DecidableEq, Repr

/-- The decoder's position and datapath registers (10_state.md R11, R13). -/
structure Decoder where
  /-- `state`. -/
  state : DecState
  /-- `phase`. -/
  phase : Phase
  /-- `sync_count`. -/
  syncCount : BitVec 2
  /-- `bit_count`, saturating. -/
  bitCount : BitVec 8
  /-- `code`. -/
  code : BitVec 80
  /-- `sum_pulse`, wrapping. -/
  sumPulse : BitVec 40
  /-- `cnt_pulse`, saturating. -/
  cntPulse : BitVec 8
  /-- `sum_short`, wrapping. -/
  sumShort : BitVec 40
  /-- `cnt_short`, saturating. -/
  cntShort : BitVec 8
  /-- `sum_long`, wrapping. -/
  sumLong : BitVec 40
  /-- `cnt_long`, saturating. -/
  cntLong : BitVec 8
deriving DecidableEq, Repr

/-- The receive front end and the watchdog's arming bit (10_state.md R28). -/
structure FrontEnd where
  /-- `RX_EN`. -/
  rxEn : Bool
  /-- `prev_ts`. -/
  prevTs : U32
  /-- `prev_valid`. -/
  prevValid : Bool
  /-- `wd_armed`. -/
  wdArmed : Bool
deriving DecidableEq, Repr

/-- The encoder's position and shadow registers (10_state.md R14). -/
structure Encoder where
  /-- `enc_state`. -/
  encState : EncState
  /-- `rep_idx`. -/
  repIdx : BitVec 7
  /-- `step`. -/
  step : SeqPos
  /-- `bit_idx`. -/
  bitIdx : BitVec 7
  /-- `s_pkt`. -/
  sPkt : BitVec 80
  /-- `s_bits`. -/
  sBits : BitVec 7
  /-- `s_reps`. -/
  sReps : BitVec 7
deriving DecidableEq, Repr

/-- The packet buffer `PKT[0..9]` (10_state.md R26, 20_memory.md R40). -/
structure Packet where
  b0 : Byte
  b1 : Byte
  b2 : Byte
  b3 : Byte
  b4 : Byte
  b5 : Byte
  b6 : Byte
  b7 : Byte
  b8 : Byte
  b9 : Byte
deriving DecidableEq, Repr

/-- The operand registers `ARG0..ARG4` (10_state.md R26). -/
structure Args where
  a0 : U32
  a1 : U32
  a2 : U32
  a3 : U32
  a4 : U32
deriving DecidableEq, Repr

/-- The sticky error bits of `ERR` (10_state.md R19). -/
structure ErrFlags where
  /-- `CALFAIL`, bit 0. -/
  calFail : Bool
  /-- `CFGERR`, bit 1. -/
  cfgErr : Bool
  /-- `CHKFAIL`, bit 2. -/
  chkFail : Bool
deriving DecidableEq, Repr

/-- The event counters (10_state.md R24), saturating. -/
structure Counters where
  /-- `VIOL_CNT`. -/
  viol : U32
  /-- `LENMISS_CNT`. -/
  lenMiss : U32
  /-- `PKT_CNT`. -/
  pkt : U32
  /-- `CHKFAIL_CNT`. -/
  chkFail : U32
deriving DecidableEq, Repr

/-- The validator's result (44_validator.md R186). -/
structure PvResult where
  valid : Bool
  /-- An error code of 30_encoding.md R71. -/
  err : BitVec 3
  f0 : U32
  f1 : U32
  f2 : U32
  f3 : U32
  f4 : U32
deriving DecidableEq, Repr

/-- One output record (10_state.md R29, 30_encoding.md R67). -/
structure OutRecord where
  code : BitVec 80
  bits : BitVec 8
  avgPulse : U32
  avgShort : U32
  avgLong : U32
  pv : PvResult
deriving DecidableEq, Repr

/-- One (level, duration) pair of `TXS` (10_state.md R30, 30_encoding.md R64). -/
structure Segment where
  level : Bool
  dur : U32
deriving DecidableEq, Repr

/-- What the block shows the HOST in the current step: the answer of a read (45_host_control.md R196) and the three
one-step notifications (60_exceptions.md R227). The model's own field (log 12). -/
structure HostPort where
  /-- The 32 bits a CFG_READ of this step returned. -/
  rdata : Option U32
  /-- PKT_READY. -/
  pktReady : Bool
  /-- TX_DONE. -/
  txDone : Bool
  /-- FATAL. -/
  fatal : Bool
deriving DecidableEq, Repr

/-- One input still to come: the real time in µs that passes before it, and the word on its port (log 1, log 2). -/
structure Stimulus where
  delay : Nat
  word : PortWord
deriving DecidableEq, Repr

/-- The state of one instance of the block, in the groups of 10_state.md R10, and the model's own fields. -/
structure State where
  /-- `SESSION` (R31). -/
  session : Session
  /-- The configuration registers (R20, R21, R23). -/
  cfg : Cfg
  /-- `SCALE`, unsigned Q16.16 (R22). -/
  scale : U32
  /-- The timing LUT `T[0..5]` (R27). -/
  lut : PerKind U32
  /-- The decoder (R11, R13). -/
  dec : Decoder
  /-- The receive front end and the watchdog (R28). -/
  rx : FrontEnd
  /-- The encoder (R14). -/
  enc : Encoder
  /-- The transmit output level (R33; 45_host_control.md R201; 60_exceptions.md R221; log 11). -/
  txLevel : Bool
  /-- `PKT[0..9]` (R26). -/
  pkt : Packet
  /-- `TX_BITS` (R26). -/
  txBits : BitVec 7
  /-- `TX_REPEATS` (R26). -/
  txRepeats : BitVec 7
  /-- `ARG0..ARG4` (R26). -/
  args : Args
  /-- `RES0` bits [2:0] (R26). -/
  res0 : BitVec 3
  /-- `ERR` (R19). -/
  err : ErrFlags
  /-- The event counters (R24). -/
  cnt : Counters
  /-- The output record registers (R25). -/
  outReg : OutRecord
  /-- `VAL_PV`, `VAL_F0..VAL_F4` (R16). -/
  valPv : PvResult
  /-- `OUT`, oldest first (R29). -/
  out : List OutRecord
  /-- `TXS`, oldest first (R30). -/
  txs : List Segment
  /-- The model's own: what the HOST sees of the current step (log 12). -/
  io : HostPort
  /-- The watchdog's idle time in µs since the last edge taken (R28 "conceptually"; log 2). -/
  idle : Nat
  /-- The model's own: the deployment parameters (log 9, log 10). -/
  deploy : Deployment
  /-- The model's own: the inputs still to come, first one first (log 1). -/
  pending : List Stimulus
deriving DecidableEq, Repr

/-- The decoder's reset state (43_decoder.md R136). -/
def Decoder.resetState : Decoder :=
  { state := .syncWait, phase := .expectPulse, syncCount := 0, bitCount := 0, code := 0, sumPulse := 0, cntPulse := 0,
    sumShort := 0, cntShort := 0, sumLong := 0, cntLong := 0 }

/-- A validator result of zeros (10_state.md R33). -/
def PvResult.zero : PvResult := { valid := false, err := 0, f0 := 0, f1 := 0, f2 := 0, f3 := 0, f4 := 0 }

/-- An output record of zeros (10_state.md R33). -/
def OutRecord.zero : OutRecord :=
  { code := 0, bits := 0, avgPulse := 0, avgShort := 0, avgLong := 0, pv := .zero }

/-- A packet buffer of zeros (10_state.md R33). -/
def Packet.zero : Packet :=
  { b0 := 0, b1 := 0, b2 := 0, b3 := 0, b4 := 0, b5 := 0, b6 := 0, b7 := 0, b8 := 0, b9 := 0 }

/-- Nothing shown to the HOST. -/
def HostPort.quiet : HostPort := { rdata := none, pktReady := false, txDone := false, fatal := false }

/-- The block right after reset (10_state.md R33): everything 0, empty or at its first value but `SCALE` = 1.0. -/
def State.reset : State :=
  { session := .config
    cfg :=
      { nominal := .all 0, tol := .all 0, expectedBits := 0, wdUs := 0, variant := .v40, chkMode := .additive,
        crcPoly := 0, crcInit := 0, marker4 := 0, marker5 := 0 }
    scale := 0x00010000
    lut := .all 0
    dec := .resetState
    rx := { rxEn := false, prevTs := 0, prevValid := false, wdArmed := false }
    enc := { encState := .idle, repIdx := 0, step := .p1, bitIdx := 0, sPkt := 0, sBits := 0, sReps := 0 }
    txLevel := false
    pkt := .zero
    txBits := 0
    txRepeats := 0
    args := { a0 := 0, a1 := 0, a2 := 0, a3 := 0, a4 := 0 }
    res0 := 0
    err := { calFail := false, cfgErr := false, chkFail := false }
    cnt := { viol := 0, lenMiss := 0, pkt := 0, chkFail := 0 }
    outReg := .zero
    valPv := .zero
    out := []
    txs := []
    io := .quiet
    idle := 0
    deploy := .default
    pending := [] }

/-- The faults a step can end in: none. No operation of the block stops it: the five error kinds are state changes
inside the raising step (60_exceptions.md R220, R229). -/
inductive Fault where
deriving DecidableEq, Repr

/-- The refusals of a step. -/
inductive Refusal where
  /-- Raised by an arm of `exec` for an operation that has no meaning yet; no arm raises it. Safe: the model stops. -/
  | notModelled (mnemonic : String)
deriving DecidableEq, Repr

/-- The outcome of an operation. -/
abbrev Result := Host.Outcome State Fault Refusal

end Sys2Proof.Machine
end

