-- ==== Sys2Proof/Machine/Operands.lean ====
section
/-! DEFINITION. The values operations assemble from stored fields (30_encoding.md R73) and the arithmetic laws
(R74): bands, scaled durations, the calibration quotient, averages, checksums, packet bytes. -/

namespace Sys2Proof

/-- The value of kind `k` (10_state.md R16: the index is the kind code). -/
def PerKind.get {α : Type} (p : PerKind α) : Kind → α
  | .syncGap => p.syncGap
  | .pulse => p.pulse
  | .short => p.short
  | .long => p.long
  | .sync => p.sync
  | .gap => p.gap

/-- `p` with the value of kind `k` replaced. -/
def PerKind.set {α : Type} (p : PerKind α) (k : Kind) (a : α) : PerKind α :=
  match k with
  | .syncGap => { p with syncGap := a }
  | .pulse => { p with pulse := a }
  | .short => { p with short := a }
  | .long => { p with long := a }
  | .sync => { p with sync := a }
  | .gap => { p with gap := a }

/-- `f` of the value of every kind. -/
def PerKind.map {α β : Type} (f : α → β) (p : PerKind α) : PerKind β :=
  { syncGap := f p.syncGap, pulse := f p.pulse, short := f p.short, long := f p.long, sync := f p.sync, gap := f p.gap }

/-- Whether `f` holds of the value of every kind. -/
def PerKind.allOf {α : Type} (f : α → Bool) (p : PerKind α) : Bool :=
  f p.syncGap && f p.pulse && f p.short && f p.long && f p.sync && f p.gap

/-- One shift step of the default CRC8 (44_validator.md R181). -/
def crc8Bit (poly r : Byte) : Byte := if r.getLsbD 7 then r <<< 1 ^^^ poly else r <<< 1

/-- One byte of the default CRC8: exclusive-or, then eight shift steps (44_validator.md R181). -/
def crc8Byte (poly r b : Byte) : Byte := Nat.repeat (crc8Bit poly) 8 (r ^^^ b)

/-- The default body of `crc8` (44_validator.md R181; from general knowledge, as the spec says; log 10). -/
def crc8Default (bs : List Byte) (poly init : Byte) : Byte := bs.foldl (crc8Byte poly) init

/-- `crc8` of a deployment: the default body, or the function plugged in (00_scope.md R6, 10_state.md R32). -/
def Deployment.crc8 (d : Deployment) (bs : List Byte) (poly init : Byte) : Byte :=
  if d.crcPlugged then Config.pluggedCrc8 bs poly init else crc8Default bs poly init

/-- The length of a packet of variant `v` in bits (30_encoding.md R77). -/
def Variant.bits : Variant → Nat
  | .v40 => 40
  | .v48 => 48
  | .v80 => 80

end Sys2Proof

namespace Sys2Proof.Machine

/-- The kinds in enumeration order (30_encoding.md R61). -/
def kinds : List Kind := [.syncGap, .pulse, .short, .long, .sync, .gap]

/-- The kind codes of 30_encoding.md R61; 7 is Unknown. -/
def kindCode : Option Kind → BitVec 3
  | some .syncGap => 0
  | some .pulse => 1
  | some .short => 2
  | some .long => 3
  | some .sync => 4
  | some .gap => 5
  | none => 7

/-- The error codes of 30_encoding.md R71. -/
def errorCode : ErrorKind → BitVec 3
  | .calibrationFailure => 1
  | .protocolViolation => 2
  | .lengthMismatch => 3
  | .checksumFailure => 4
  | .configurationError => 5

/-- `x + 1`, saturating at the greatest value of the width (30_encoding.md R74 (f)). -/
def satInc {n : Nat} (x : BitVec n) : BitVec n :=
  if x = BitVec.allOnes n then x else x + 1

/-- The lower bound of a band: `ceil(nominal * (100 - tol) / 100)` (42_classifier.md R121). -/
def bandLo (nominal : U32) (tol : BitVec 7) : U32 :=
  BitVec.ofNat 32 ((nominal.toNat * (100 - tol.toNat) + 99) / 100)

/-- The upper bound of a band: `min(floor(nominal * (100 + tol) / 100), 2^32 - 1)` (42_classifier.md R121). -/
def bandHi (nominal : U32) (tol : BitVec 7) : U32 :=
  BitVec.ofNat 32 (min (nominal.toNat * (100 + tol.toNat) / 100) (2 ^ 32 - 1))

/-- `LO[k]` (10_state.md R20). -/
def Cfg.lo (c : Cfg) (k : Kind) : U32 := bandLo (c.nominal.get k) (c.tol.get k)

/-- `HI[k]` (10_state.md R20). -/
def Cfg.hi (c : Cfg) (k : Kind) : U32 := bandHi (c.nominal.get k) (c.tol.get k)

/-- Whether `d` lies in the band of `k`, both ends included (30_encoding.md R74 (c)). -/
def Cfg.inBand (c : Cfg) (d : U32) (k : Kind) : Bool :=
  decide ((c.lo k).toNat ≤ d.toNat) && decide (d.toNat ≤ (c.hi k).toNat)

/-- `classify(d)` (42_classifier.md R122): the watchdog force first (R124), then the first band in enumeration order
that contains `d` (R123), else Unknown. -/
def Cfg.classify (c : Cfg) (d : U32) : Option Kind :=
  if c.wdUs.toNat < d.toNat then some .gap else kinds.find? (c.inBand d)

/-- The duration between two timestamps, modulo 2^32 (42_classifier.md R120, 30_encoding.md R74 (a)). -/
def duration (ts prevTs : U32) : U32 := ts - prevTs

/-- `scaled(n) = (n * SCALE + 32768) >> 16`, exactly (41_encoder.md R101). -/
def scaled (scale n : U32) : Nat := (n.toNat * scale.toNat + 32768) / 65536

/-- Whether a scaled duration may be emitted: from 1 to 2^32 - 1 (41_encoder.md R100, 30_encoding.md R74 (d)). -/
def emittable (t : Nat) : Bool := decide (1 ≤ t) && decide (t < 2 ^ 32)

/-- The divisor of CAL_LOAD, `2 * N * nominal_us`, exactly (40_calibrator.md R90). -/
def calDivisor (n nominalUs : U32) : Nat := 2 * n.toNat * nominalUs.toNat

/-- The quotient of CAL_LOAD, `floor(measured_us * 65536 / den)`, exactly (40_calibrator.md R90). -/
def calQuotient (measuredUs n nominalUs : U32) : Nat := measuredUs.toNat * 65536 / calDivisor n nominalUs

/-- The average of a running sum: `floor(sum / count)`, 0 when the count is 0 (43_decoder.md R148). It fits 32 bits in
every state the block can reach; outside those it is taken modulo 2^32 (log 16). -/
def average (sum : BitVec 40) (cnt : BitVec 8) : U32 :=
  if cnt = 0 then 0 else BitVec.ofNat 32 (sum.toNat / cnt.toNat)

/-- A running sum with a duration added, modulo 2^40 (30_encoding.md R74 (f)). -/
def addSum (sum : BitVec 40) (d : U32) : BitVec 40 := sum + d.setWidth 40

/-- `(code << 1) | b`, modulo 2^80 (30_encoding.md R74 (e)). -/
def shiftIn (code : BitVec 80) (b : Bool) : BitVec 80 := code <<< 1 ||| (BitVec.ofBool b).setWidth 80

/-- The additive checksum, the sum modulo 256 (44_validator.md R178). -/
def add8 (bs : List Byte) : Byte := bs.foldl (· + ·) 0

/-- Byte `k` of an `L`-bit code, `code[L-1-8k : L-8-8k]` (44_validator.md R171). -/
def codeByte (l : Nat) (code : BitVec 80) (k : Nat) : Byte := code.extractLsb' (l - 8 - 8 * k) 8

/-- The bytes of the packet buffer in order (10_state.md R26). -/
def Packet.bytes (p : Packet) : List Byte := [p.b0, p.b1, p.b2, p.b3, p.b4, p.b5, p.b6, p.b7, p.b8, p.b9]

/-- `PKT[i]`; there is no byte 10 (20_memory.md R40). -/
def Packet.byte (p : Packet) (i : Fin 10) : Byte :=
  match i with
  | 0 => p.b0
  | 1 => p.b1
  | 2 => p.b2
  | 3 => p.b3
  | 4 => p.b4
  | 5 => p.b5
  | 6 => p.b6
  | 7 => p.b7
  | 8 => p.b8
  | 9 => p.b9

/-- `MemRead(addr, n)` (00_scope.md R8): `n` bytes of the packet buffer from byte `addr`, as a big-endian number. -/
def Packet.memRead (p : Packet) (addr n : Nat) : Nat :=
  ((p.bytes.drop addr).take n).foldl (fun acc b => acc * 256 + b.toNat) 0

/-- `PKT[0] || PKT[1] || ... || PKT[9]` (41_encoder.md R100). -/
def Packet.word (p : Packet) : BitVec 80 :=
  p.b0 ++ p.b1 ++ p.b2 ++ p.b3 ++ p.b4 ++ p.b5 ++ p.b6 ++ p.b7 ++ p.b8 ++ p.b9

/-- Data bit `i` of a latched packet, `s_pkt[79 - i]` (41_encoder.md R103); 0 beyond bit 79, which no run reaches
(log 18). -/
def packetBit (sPkt : BitVec 80) (i : Nat) : Bool := sPkt.getMsbD i

end Sys2Proof.Machine
end

