-- ==== Sys2Proof/Machine/Ops.lean ====
section
/-! DEFINITION. The shared operations over the state: the decoder reset, stopping a channel, the two streams, and
`raise`, the block's one operation for taking an error (60_exceptions.md R220). There is no return from an error:
nothing is saved, so nothing is restored (60_exceptions.md R230). -/

namespace Sys2Proof.Machine

/-- `dec_reset()` (43_decoder.md R136): the decoder's position and datapath, nothing else. -/
def decReset (s : State) : State := { s with dec := .resetState }

/-- Stopping the receive channel: `RX_EN`, `prev_valid`, `wd_armed` cleared and `dec_reset()`
(45_host_control.md R200, 60_exceptions.md R221). -/
def stopRx (s : State) : State :=
  decReset { s with rx := { s.rx with rxEn := false, prevValid := false, wdArmed := false } }

/-- Stopping the sequencer: Idle, position cleared, output level 0 (45_host_control.md R201, 60_exceptions.md R221). -/
def stopTx (s : State) : State :=
  { s with enc := { s.enc with encState := .idle, repIdx := 0, bitIdx := 0, step := .p1 }, txLevel := false }

/-- `raise e`: the whole state change of each error kind (60_exceptions.md R220 to R225), performed inside the step of
the raising operation. -/
def raise (e : ErrorKind) (s : State) : State :=
  match e with
  | .calibrationFailure =>
    { stopRx (stopTx s) with
      err := { s.err with calFail := true }, session := .halted, io := { s.io with fatal := true } }
  | .protocolViolation => decReset { s with cnt := { s.cnt with viol := satInc s.cnt.viol } }
  | .lengthMismatch => { s with cnt := { s.cnt with lenMiss := satInc s.cnt.lenMiss } }
  | .checksumFailure =>
    { s with err := { s.err with chkFail := true }, cnt := { s.cnt with chkFail := satInc s.cnt.chkFail } }
  | .configurationError => { s with err := { s.err with cfgErr := true } }

/-- `emit_tx(level, dur)` (00_scope.md R8): one pair appended to `TXS`, and nothing else (41_encoder.md R107; what that
leaves of the transmit output level is log 11's). -/
def emitTx (level : Bool) (dur : U32) (s : State) : State :=
  { s with txs := s.txs ++ [{ level := level, dur := dur }] }

/-- `emit_pkt(rec)` and what `accept()` does with it (43_decoder.md R149): the record appended to `OUT`, copied to the
output record registers and counted, PKT_READY notified. -/
def emitPkt (rec : OutRecord) (s : State) : State :=
  { s with
    out := s.out ++ [rec], outReg := rec, cnt := { s.cnt with pkt := satInc s.cnt.pkt },
    io := { s.io with pktReady := true } }

/-- The end of the one-step outputs of the step before (60_exceptions.md R227 "one-step pulse"; log 12). -/
def quietPort (s : State) : State := { s with io := .quiet }

/-- A command that the session phase does not allow does nothing but raise ConfigurationError (60_exceptions.md R225,
45_host_control.md R204). -/
def gated (ok : Bool) (op : State → State) (s : State) : State :=
  if ok then op s else raise .configurationError s

end Sys2Proof.Machine
end

