-- ==== Sys2Proof/Machine/Calibrator.lean ====
section
/-! DEFINITION. The scale unit: CAL_LOAD and CAL_FAIL (40_calibrator.md). -/

namespace Sys2Proof.Machine

/-- CAL_LOAD (40_calibrator.md R90): the phase check (ConfigurationError) before the arithmetic checks
(CalibrationFailure; 60_exceptions.md R228). -/
def calLoadOp (s : State) : State :=
  gated (s.session == .config)
    (fun s =>
      let q := calQuotient s.args.a0 s.args.a1 s.args.a2
      if calDivisor s.args.a1 s.args.a2 = 0 then raise .calibrationFailure s
      else if q = 0 ∨ 2 ^ 32 ≤ q then raise .calibrationFailure s
      else { s with scale := BitVec.ofNat 32 q })
    s

/-- CAL_FAIL (40_calibrator.md R92). -/
def calFailOp (s : State) : State := gated (s.session != .halted) (raise .calibrationFailure) s

/-- CAL_LOAD (40_calibrator.md R90). -/
def execCalLoad (s : State) : Result := .next (calLoadOp s)

/-- CAL_FAIL (40_calibrator.md R92). -/
def execCalFail (s : State) : Result := .next (calFailOp s)

end Sys2Proof.Machine
end

