-- ==== Sys2Proof/Machine/Flags.lean ====
section
/-! DEFINITION. The flag and view registers as the HOST reads them (10_state.md R15 to R19, R25): no storage of their
own but `ERR`. -/

namespace Sys2Proof

/-- The code of `VARIANT` (10_state.md R23). -/
def Variant.code : Variant → BitVec 2
  | .v40 => 0
  | .v48 => 1
  | .v80 => 2

/-- The variant of a code; 3 is none (10_state.md R23). -/
def variantOfCode (c : BitVec 2) : Option Variant :=
  match c.toNat with
  | 0 => some .v40
  | 1 => some .v48
  | 2 => some .v80
  | _ => none

/-- The bit of `CHK_MODE` (10_state.md R23). -/
def ChkMode.bit : ChkMode → Bool
  | .additive => false
  | .crc8 => true

end Sys2Proof

namespace Sys2Proof.Machine

/-- The code of `SESSION` (10_state.md R31). -/
def Session.code : Session → BitVec 2
  | .config => 0
  | .running => 1
  | .halted => 2

/-- The bit of `state` (10_state.md R13). -/
def DecState.bit : DecState → Bool
  | .syncWait => false
  | .dataCollect => true

/-- The bit of `phase` (10_state.md R13). -/
def Phase.bit : Phase → Bool
  | .expectPulse => false
  | .expectInterval => true

/-- The bit of `enc_state` (10_state.md R14). -/
def EncState.bit : EncState → Bool
  | .idle => false
  | .busy => true

/-- The code of `step` (10_state.md R14). -/
def SeqPos.code : SeqPos → BitVec 4
  | .p1 => 0
  | .sg1 => 1
  | .p2 => 2
  | .sg2 => 3
  | .p3 => 4
  | .sy => 5
  | .bp => 6
  | .bg => 7
  | .tp => 8
  | .tg => 9

/-- A Bool as a bit. -/
def bit (b : Bool) : BitVec 1 := BitVec.ofBool b

/-- `STATUS` (10_state.md R18). -/
def State.statusWord (s : State) : U32 :=
  0#24 ++ bit s.rx.wdArmed ++ bit s.rx.prevValid ++ bit s.dec.phase.bit ++ bit s.dec.state.bit ++
    bit s.enc.encState.bit ++ bit s.rx.rxEn ++ s.session.code

/-- `ERR` as a word (10_state.md R19). -/
def ErrFlags.word (e : ErrFlags) : U32 := 0#29 ++ bit e.chkFail ++ bit e.cfgErr ++ bit e.calFail

/-- `ERR` after a write of `data`: a 1 clears `CFGERR`, `CHKFAIL`; `CALFAIL` stays (45_host_control.md R203). -/
def ErrFlags.writeOneToClear (e : ErrFlags) (data : U32) : ErrFlags :=
  { e with cfgErr := e.cfgErr && !data.getLsbD 1, chkFail := e.chkFail && !data.getLsbD 2 }

/-- `DEC_DBG` (10_state.md R16). -/
def Decoder.dbgWord (d : Decoder) : U32 := 0#16 ++ d.bitCount ++ 0#4 ++ d.syncCount ++ bit d.phase.bit ++ bit d.state.bit

/-- `ENC_DBG` (10_state.md R16). -/
def Encoder.dbgWord (e : Encoder) : U32 := 0#14 ++ e.repIdx ++ e.bitIdx ++ e.step.code

/-- `OUT_PV` and `VAL_PV` (10_state.md R16). -/
def PvResult.word (r : PvResult) : U32 := 0#28 ++ r.err ++ bit r.valid

/-- A pair as the segment word TXC takes: bit 32 `level`, bits [31:0] `dur` (30_encoding.md R64). -/
def Segment.word (g : Segment) : BitVec 33 := bit g.level ++ g.dur

/-- The pair of a segment word (30_encoding.md R64). -/
def Segment.ofWord (w : BitVec 33) : Segment := { level := w.getLsbD 32, dur := w.extractLsb' 0 32 }

/-- `PVCFG` as a word (10_state.md R23). -/
def Cfg.pvcfgWord (c : Cfg) : U32 := 0#8 ++ c.crcInit ++ c.crcPoly ++ 0#5 ++ bit c.chkMode.bit ++ c.variant.code

/-- `MARKERS` as a word (10_state.md R23). -/
def Cfg.markersWord (c : Cfg) : U32 := 0#16 ++ c.marker5 ++ c.marker4

end Sys2Proof.Machine
end

