-- ==== Sys2Proof/Machine/Validator.lean ====
section
/-! DEFINITION. The packet framer and validator: VALIDATE and FRAME (44_validator.md). -/

namespace Sys2Proof.Machine

/-- A result whose check answered `ok`, with the fields `f0..f4` (44_validator.md R170, R179). -/
def pvResult (ok : Bool) (f0 f1 f2 f3 f4 : U32) : PvResult :=
  { valid := ok, err := if ok then 0 else errorCode .checksumFailure, f0 := f0, f1 := f1, f2 := f2, f3 := f3, f4 := f4 }

/-- The result of a bit count that is not the variant's length (44_validator.md R180). -/
def pvLengthMismatch : PvResult := { PvResult.zero with err := errorCode .lengthMismatch }

/-- Fields and check of a 40-bit packet (44_validator.md R172, R173). -/
def validateV40 (code : BitVec 80) : PvResult :=
  let b := codeByte 40 code
  pvResult (add8 [b 0, b 1, b 2, b 3] == b 4)
    ((b 0).setWidth 32) (((b 1).extractLsb' 4 4).setWidth 32) (((b 1).extractLsb' 0 4 ++ b 2).setWidth 32)
    ((b 3).setWidth 32) ((b 4).setWidth 32)

/-- Fields and check of a 48-bit packet (44_validator.md R174, R175). -/
def validateV48 (c : Cfg) (code : BitVec 80) : PvResult :=
  let b := codeByte 48 code
  pvResult (b 4 == c.marker4 && b 5 == c.marker5)
    ((b 0).setWidth 32) ((b 1 ++ (b 2).extractLsb' 4 4).setWidth 32) (((b 2).extractLsb' 0 4 ++ b 3).setWidth 32)
    ((b 4).setWidth 32) ((b 5).setWidth 32)

/-- The check byte of the 80-bit variant over its bytes 0 to 8 (44_validator.md R177, R184). -/
def checkByteV80 (d : Deployment) (c : Cfg) (bs : List Byte) : Byte :=
  match c.chkMode with
  | .additive => add8 bs
  | .crc8 => d.crc8 bs c.crcPoly c.crcInit

/-- Fields and check of an 80-bit packet (44_validator.md R176, R177). -/
def validateV80 (d : Deployment) (c : Cfg) (code : BitVec 80) : PvResult :=
  let b := codeByte 80 code
  pvResult (checkByteV80 d c [b 0, b 1, b 2, b 3, b 4, b 5, b 6, b 7, b 8] == b 9)
    (((b 0).extractLsb' 4 4).setWidth 32) (((b 0).extractLsb' 0 4).setWidth 32) (b 1 ++ b 2 ++ b 3 ++ b 4)
    (b 5 ++ b 6 ++ b 7 ++ b 8) ((b 9).setWidth 32)

/-- The result of `validate(code, n)` under a configuration (44_validator.md R170). -/
def validateResult (d : Deployment) (c : Cfg) (code : BitVec 80) (n : BitVec 8) : PvResult :=
  if n.toNat ≠ c.variant.bits then pvLengthMismatch
  else
    match c.variant with
    | .v40 => validateV40 code
    | .v48 => validateV48 c code
    | .v80 => validateV80 d c code

/-- What `validate` raises with the result `r`: ChecksumFailure when the check failed, nothing otherwise
(44_validator.md R170, R180; 60_exceptions.md R224). -/
def raiseForResult (r : PvResult) (s : State) : State :=
  if r.err = errorCode .checksumFailure then raise .checksumFailure s else s

/-- `code` of the HOST's VALIDATE: `ARG2[15:0] || ARG1 || ARG0` (44_validator.md R170). -/
def argCode (a : Args) : BitVec 80 := a.a2.extractLsb' 0 16 ++ a.a1 ++ a.a0

/-- VALIDATE as a command (44_validator.md R170), in Config and Running (45_host_control.md R204). -/
def validateOp (s : State) : State :=
  gated (s.session != .halted)
    (fun s =>
      let r := validateResult s.deploy s.cfg (argCode s.args) (s.args.a3.extractLsb' 0 8)
      { raiseForResult r s with valPv := r })
    s

/-- The packet of FRAME with `VARIANT = V40` (44_validator.md R182). -/
def packetV40 (a : Args) : Packet :=
  let p0 := a.a0.extractLsb' 0 8
  let p1 := a.a1.extractLsb' 0 4 ++ a.a2.extractLsb' 8 4
  let p2 := a.a2.extractLsb' 0 8
  let p3 := a.a3.extractLsb' 0 8
  { Packet.zero with b0 := p0, b1 := p1, b2 := p2, b3 := p3, b4 := add8 [p0, p1, p2, p3] }

/-- The packet of FRAME with `VARIANT = V48` (44_validator.md R183). -/
def packetV48 (c : Cfg) (a : Args) : Packet :=
  { Packet.zero with
    b0 := a.a0.extractLsb' 0 8
    b1 := a.a1.extractLsb' 4 8
    b2 := a.a1.extractLsb' 0 4 ++ a.a2.extractLsb' 8 4
    b3 := a.a2.extractLsb' 0 8
    b4 := c.marker4
    b5 := c.marker5 }

/-- The packet of FRAME with `VARIANT = V80` (44_validator.md R184). -/
def packetV80 (d : Deployment) (c : Cfg) (a : Args) : Packet :=
  let p0 := a.a0.extractLsb' 0 4 ++ a.a1.extractLsb' 0 4
  let p1 := a.a2.extractLsb' 24 8
  let p2 := a.a2.extractLsb' 16 8
  let p3 := a.a2.extractLsb' 8 8
  let p4 := a.a2.extractLsb' 0 8
  let p5 := a.a3.extractLsb' 24 8
  let p6 := a.a3.extractLsb' 16 8
  let p7 := a.a3.extractLsb' 8 8
  let p8 := a.a3.extractLsb' 0 8
  { b0 := p0, b1 := p1, b2 := p2, b3 := p3, b4 := p4, b5 := p5, b6 := p6, b7 := p7, b8 := p8,
    b9 := checkByteV80 d c [p0, p1, p2, p3, p4, p5, p6, p7, p8] }

/-- The packet that FRAME builds for the variant `v` from the operands (44_validator.md R182 to R184). -/
def framePacket (v : Variant) (s : State) : Packet :=
  match v with
  | .v40 => packetV40 s.args
  | .v48 => packetV48 s.cfg s.args
  | .v80 => packetV80 s.deploy s.cfg s.args

/-- FRAME for the variant `v`: the packet into `PKT`, its length into `TX_BITS`; in Config and Running
(44_validator.md R182 to R184, 45_host_control.md R204). -/
def frameOp (v : Variant) (s : State) : State :=
  gated (s.session != .halted)
    (fun s => { s with pkt := framePacket v s, txBits := BitVec.ofNat 7 v.bits }) s

/-- VALIDATE (44_validator.md R170). -/
def execValidate (s : State) : Result := .next (validateOp s)

/-- FRAME, row V40 (44_validator.md R182). -/
def execFrameV40 (s : State) : Result := .next (frameOp .v40 s)

/-- FRAME, row V48 (44_validator.md R183). -/
def execFrameV48 (s : State) : Result := .next (frameOp .v48 s)

/-- FRAME, row V80 (44_validator.md R184). -/
def execFrameV80 (s : State) : Result := .next (frameOp .v80 s)

end Sys2Proof.Machine
end

