-- ==== Sys2Proof/Machine/Decoder.lean ====
section
/-! DEFINITION. The decoder state machine and the watchdog: EV_PULSE, EV_IV_*, EV_WD and the reserved event types
(43_decoder.md; 30_encoding.md R76). -/

namespace Sys2Proof.Machine

/-- The record of an accepted packet (43_decoder.md R148, R149). -/
def acceptRecord (s : State) : OutRecord :=
  { code := s.dec.code
    bits := s.dec.bitCount
    avgPulse := average s.dec.sumPulse s.dec.cntPulse
    avgShort := average s.dec.sumShort s.dec.cntShort
    avgLong := average s.dec.sumLong s.dec.cntLong
    pv := validateResult s.deploy s.cfg s.dec.code s.dec.bitCount }

/-- `accept()` (43_decoder.md R149): a packet that fails the check is delivered all the same, marked invalid
(60_exceptions.md R224). -/
def accept (s : State) : State := emitPkt (acceptRecord s) (raiseForResult (acceptRecord s).pv s)

/-- EV_PULSE (43_decoder.md R138). -/
def evPulse (d : U32) (s : State) : State :=
  match s.dec.phase with
  | .expectInterval => raise .protocolViolation s
  | .expectPulse =>
    { s with
      dec :=
        { s.dec with
          sumPulse := addSum s.dec.sumPulse d, cntPulse := satInc s.dec.cntPulse, phase := .expectInterval } }

/-- (SyncWait, SyncGap) (43_decoder.md R140). -/
def onSyncGap (s : State) : State :=
  if s.dec.syncCount = 2 then raise .protocolViolation s
  else { s with dec := { s.dec with syncCount := s.dec.syncCount + 1 } }

/-- (SyncWait, Sync) (43_decoder.md R141); the counter is really cleared (R154). -/
def onSync (s : State) : State :=
  if s.dec.syncCount = 2 then
    { s with dec := { s.dec with state := .dataCollect, bitCount := 0, code := 0, syncCount := 0 } }
  else raise .protocolViolation s

/-- (DataCollect, Short): a 0 bit (43_decoder.md R142). -/
def onShort (d : U32) (s : State) : State :=
  { s with
    dec :=
      { s.dec with
        bitCount := satInc s.dec.bitCount, code := shiftIn s.dec.code false,
        sumShort := addSum s.dec.sumShort d, cntShort := satInc s.dec.cntShort } }

/-- (DataCollect, Long): a 1 bit (43_decoder.md R143). -/
def onLong (d : U32) (s : State) : State :=
  { s with
    dec :=
      { s.dec with
        bitCount := satInc s.dec.bitCount, code := shiftIn s.dec.code true,
        sumLong := addSum s.dec.sumLong d, cntLong := satInc s.dec.cntLong } }

/-- (DataCollect, Gap): the end of the packet (43_decoder.md R144). -/
def onGap (s : State) : State :=
  decReset
    (if s.dec.bitCount.toNat = s.cfg.expectedBits.toNat then accept s else raise .lengthMismatch s)

/-- EV_IV of kind `k` (`none` is Unknown): the alternation check first, then the table (43_decoder.md R139, R146,
R147, R152). -/
def evInterval (k : Option Kind) (d : U32) (s : State) : State :=
  match s.dec.phase with
  | .expectPulse => raise .protocolViolation s
  | .expectInterval =>
    let s1 := { s with dec := { s.dec with phase := .expectPulse } }
    match s.dec.state, k with
    | .syncWait, some .syncGap => onSyncGap s1
    | .syncWait, some .sync => onSync s1
    | .dataCollect, some .short => onShort d s1
    | .dataCollect, some .long => onLong d s1
    | .dataCollect, some .gap => onGap s1
    | _, _ => raise .protocolViolation s1

/-- EV_WD (43_decoder.md R145): `wd_armed` cleared, then a Gap with no duration. -/
def evWd (s : State) : State := evInterval (some .gap) 0 { s with rx := { s.rx with wdArmed := false } }

/-- The condition of EV_WD but for the idle time (43_decoder.md R150). -/
def State.wdReady (s : State) : Bool :=
  s.session == .running && s.rx.rxEn && s.rx.wdArmed && s.dec.state == .dataCollect &&
    s.dec.bitCount.toNat == s.cfg.expectedBits.toNat

/-- EV_PULSE (43_decoder.md R138). -/
def execEvPulse (d : U32) (s : State) : Result := .next (evPulse d s)

/-- EV_IV_SYNCGAP (43_decoder.md R140). -/
def execEvIvSyncGap (d : U32) (s : State) : Result := .next (evInterval (some .syncGap) d s)

/-- EV_IV_PULSE (43_decoder.md R146). -/
def execEvIvPulse (d : U32) (s : State) : Result := .next (evInterval (some .pulse) d s)

/-- EV_IV_SHORT (43_decoder.md R142). -/
def execEvIvShort (d : U32) (s : State) : Result := .next (evInterval (some .short) d s)

/-- EV_IV_LONG (43_decoder.md R143). -/
def execEvIvLong (d : U32) (s : State) : Result := .next (evInterval (some .long) d s)

/-- EV_IV_SYNC (43_decoder.md R141). -/
def execEvIvSync (d : U32) (s : State) : Result := .next (evInterval (some .sync) d s)

/-- EV_IV_GAP (43_decoder.md R144). -/
def execEvIvGap (d : U32) (s : State) : Result := .next (evInterval (some .gap) d s)

/-- EV_IV_UNKNOWN (43_decoder.md R147). -/
def execEvIvUnknown (d : U32) (s : State) : Result := .next (evInterval none d s)

/-- EV_WD (43_decoder.md R145). -/
def execEvWd (s : State) : Result := .next (evWd s)

/-- Event type 0b0110: an interval of kind Unknown (30_encoding.md R76). -/
def execEvReserved6 (d : U32) (s : State) : Result := .next (evInterval none d s)

/-- Event type 0b1010: an interval of kind Unknown (30_encoding.md R76). -/
def execEvReservedA (d : U32) (s : State) : Result := .next (evInterval none d s)

/-- Event type 0b1011: an interval of kind Unknown (30_encoding.md R76). -/
def execEvReservedB (d : U32) (s : State) : Result := .next (evInterval none d s)

/-- Event type 0b1100: an interval of kind Unknown (30_encoding.md R76). -/
def execEvReservedC (d : U32) (s : State) : Result := .next (evInterval none d s)

/-- Event type 0b1101: an interval of kind Unknown (30_encoding.md R76). -/
def execEvReservedD (d : U32) (s : State) : Result := .next (evInterval none d s)

/-- Event type 0b1110: an interval of kind Unknown (30_encoding.md R76). -/
def execEvReservedE (d : U32) (s : State) : Result := .next (evInterval none d s)

/-- Event type 0b1111: an interval of kind Unknown (30_encoding.md R76). -/
def execEvReservedF (d : U32) (s : State) : Result := .next (evInterval none d s)

end Sys2Proof.Machine
end

