-- ==== Sys2Proof/Machine/Classifier.lean ====
section
/-! DEFINITION. The receive front end and the edge-duration classifier: EDGE and CLASSIFY (42_classifier.md). -/

namespace Sys2Proof.Machine

/-- EDGE (42_classifier.md R120): dropped unless Running with `RX_EN = 1` (R126); the first edge only records its
timestamp; a transition to level 0 ends a pulse, one to level 1 an interval. Taking an edge restarts the idle window
(43_decoder.md R150). -/
def edgeOp (level : Bool) (ts : U32) (s : State) : State :=
  if s.session = .running ∧ s.rx.rxEn = true then
    let s1 := { s with rx := { s.rx with wdArmed := true, prevTs := ts, prevValid := true }, idle := 0 }
    if s.rx.prevValid then
      let d := duration ts s.rx.prevTs
      if level then evInterval (s.cfg.classify d) d s1 else evPulse d s1
    else s1
  else s

/-- CLASSIFY as a command (42_classifier.md R122), in Config and Running. -/
def classifyOp (s : State) : State :=
  gated (s.session != .halted) (fun s => { s with res0 := kindCode (s.cfg.classify s.args.a0) }) s

/-- EDGE (42_classifier.md R120). -/
def execEdge (level : Bool) (ts : U32) (s : State) : Result := .next (edgeOp level ts s)

/-- CLASSIFY (42_classifier.md R122). -/
def execClassify (s : State) : Result := .next (classifyOp s)

end Sys2Proof.Machine
end

