-- ==== Sys2Proof/Machine/Encoder.lean ====
section
/-! DEFINITION. The encoder: ENCODE and SEQ_STEP (41_encoder.md). -/

namespace Sys2Proof.Machine

/-- The scaled durations of the six kinds, exactly (41_encoder.md R100, R101). -/
def scaledAll (s : State) : PerKind Nat := s.cfg.nominal.map (scaled s.scale)

/-- The checks of ENCODE, all of them before any pair is appended (41_encoder.md R100): session phase, Busy,
`TX_BITS`, `TX_REPEATS`, scaled durations. -/
def encodeAdmitted (s : State) : Bool :=
  s.session == .running && s.enc.encState == .idle &&
    (decide (s.deploy.bitsMin ≤ s.txBits.toNat) && decide (s.txBits.toNat ≤ s.deploy.bitsMax)) &&
    (decide (s.deploy.repeatsMin ≤ s.txRepeats.toNat) && decide (s.txRepeats.toNat ≤ s.deploy.repeatsMax)) &&
    (scaledAll s).allOf emittable

/-- ENCODE (41_encoder.md R100): the LUT built, the packet and its operands latched, the sequencer started; any failed
check raises ConfigurationError and nothing else. -/
def encodeOp (s : State) : State :=
  gated (encodeAdmitted s)
    (fun s =>
      { s with
        lut := (scaledAll s).map (BitVec.ofNat 32)
        enc :=
          { encState := .busy, repIdx := 0, step := .p1, bitIdx := 0, sPkt := s.pkt.word, sBits := s.txBits,
            sReps := s.txRepeats } })
    s

/-- The sequencer at another position. -/
def gotoStep (p : SeqPos) (s : State) : State := { s with enc := { s.enc with step := p } }

/-- After the gap of a data bit: the next bit, or the terminator (41_encoder.md R105, S_BG). -/
def afterBit (s : State) : State :=
  if s.enc.bitIdx.toNat + 1 < s.enc.sBits.toNat then
    { s with enc := { s.enc with bitIdx := s.enc.bitIdx + 1, step := .bp } }
  else gotoStep .tp s

/-- After the gap of the terminator: the next frame, or Idle with TX_DONE (41_encoder.md R105, S_TG; R106). -/
def afterFrame (s : State) : State :=
  if s.enc.repIdx.toNat + 1 < s.enc.sReps.toNat then
    { s with enc := { s.enc with repIdx := s.enc.repIdx + 1, bitIdx := 0, step := .p1 } }
  else
    { s with
      enc := { s.enc with encState := .idle, repIdx := 0, bitIdx := 0, step := .p1 }, io := { s.io with txDone := true } }

/-- The duration of the gap of the data bit being emitted (41_encoder.md R105, S_BG). -/
def bitGap (s : State) : U32 := if packetBit s.enc.sPkt s.enc.bitIdx.toNat then s.lut.long else s.lut.short

/-- SEQ_STEP (41_encoder.md R105): one pair appended and the position advanced. It is enabled while Busy; a turn given
to an Idle sequencer changes nothing (log 4). -/
def seqOp (s : State) : State :=
  match s.enc.encState with
  | .idle => s
  | .busy =>
    match s.enc.step with
    | .p1 => gotoStep .sg1 (emitTx true s.lut.pulse s)
    | .sg1 => gotoStep .p2 (emitTx false s.lut.syncGap s)
    | .p2 => gotoStep .sg2 (emitTx true s.lut.pulse s)
    | .sg2 => gotoStep .p3 (emitTx false s.lut.syncGap s)
    | .p3 => gotoStep .sy (emitTx true s.lut.pulse s)
    | .sy => gotoStep .bp (emitTx false s.lut.sync s)
    | .bp => gotoStep .bg (emitTx true s.lut.pulse s)
    | .bg => afterBit (emitTx false (bitGap s) s)
    | .tp => gotoStep .tg (emitTx true s.lut.pulse s)
    | .tg => afterFrame (emitTx false s.lut.gap s)

/-- ENCODE (41_encoder.md R100). -/
def execEncode (s : State) : Result := .next (encodeOp s)

/-- SEQ_STEP (41_encoder.md R105). -/
def execSeqStep (s : State) : Result := .next (seqOp s)

end Sys2Proof.Machine
end

