-- ==== Sys2Proof/Machine/Registers.lean ====
section
/-! DEFINITION. The register file (10_state.md R16): numbers, access codes, reading, the legality of a write, storing
(45_host_control.md R195, R196). -/

namespace Sys2Proof.Machine

/-- The listed registers (10_state.md R16). -/
inductive Reg where
  | cmd | status | err | expectedBits | wdUs | scale | pvcfg | markers | txBits | txRepeats
  | pktW0 | pktW1 | pktW2
  | nominal (k : Kind) | tol (k : Kind) | lo (k : Kind) | hi (k : Kind)
  | violCnt | lenMissCnt | pktCnt | chkFailCnt
  | arg (i : Fin 5) | res0
  | outCode0 | outCode1 | outCode2 | outBits | outAvgPulse | outAvgShort | outAvgLong | outPv | outF (i : Fin 5)
  | t (k : Kind) | decDbg | encDbg
  | valPv | valF (i : Fin 5)
deriving DecidableEq, Repr

/-- The access codes (10_state.md R16). -/
inductive Access where
  /-- Write-only: reads 0. -/
  | wo
  /-- Read-only: a write is refused. -/
  | ro
  /-- `ERR`: write one to clear. -/
  | w1c
  /-- Readable always, writable in Config. -/
  | rwc
  /-- Readable always, writable in Config and Running. -/
  | rw
deriving DecidableEq, Repr

/-- One register per kind, from the number `base` on. -/
def kindRows (base : Nat) (f : Kind → Reg) : List (Byte × Reg) :=
  [(BitVec.ofNat 8 base, f .syncGap), (BitVec.ofNat 8 (base + 1), f .pulse), (BitVec.ofNat 8 (base + 2), f .short),
    (BitVec.ofNat 8 (base + 3), f .long), (BitVec.ofNat 8 (base + 4), f .sync), (BitVec.ofNat 8 (base + 5), f .gap)]

/-- Five registers, from the number `base` on. -/
def fiveRows (base : Nat) (f : Fin 5 → Reg) : List (Byte × Reg) :=
  [(BitVec.ofNat 8 base, f 0), (BitVec.ofNat 8 (base + 1), f 1), (BitVec.ofNat 8 (base + 2), f 2),
    (BitVec.ofNat 8 (base + 3), f 3), (BitVec.ofNat 8 (base + 4), f 4)]

/-- The control registers 0x00 to 0x0C (10_state.md R16). -/
def controlRows : List (Byte × Reg) :=
  [(0x00#8, .cmd), (0x01#8, .status), (0x02#8, .err), (0x03#8, .expectedBits), (0x04#8, .wdUs), (0x05#8, .scale),
    (0x06#8, .pvcfg), (0x07#8, .markers), (0x08#8, .txBits), (0x09#8, .txRepeats), (0x0A#8, .pktW0), (0x0B#8, .pktW1),
    (0x0C#8, .pktW2)]

/-- The event counters (10_state.md R16). -/
def counterRows : List (Byte × Reg) :=
  [(0x30#8, .violCnt), (0x31#8, .lenMissCnt), (0x32#8, .pktCnt), (0x33#8, .chkFailCnt)]

/-- `RES0` and the output record but its fields (10_state.md R16). -/
def recordRows : List (Byte × Reg) :=
  [(0x3F#8, .res0), (0x40#8, .outCode0), (0x41#8, .outCode1), (0x42#8, .outCode2), (0x43#8, .outBits),
    (0x44#8, .outAvgPulse), (0x45#8, .outAvgShort), (0x46#8, .outAvgLong), (0x47#8, .outPv)]

/-- The position views and `VAL_PV` (10_state.md R16). -/
def viewRows : List (Byte × Reg) := [(0x58#8, .decDbg), (0x59#8, .encDbg), (0x60#8, .valPv)]

/-- The register map (10_state.md R16); every other number is unlisted. -/
def regMap : List (Byte × Reg) :=
  controlRows ++ kindRows 0x10 .nominal ++ kindRows 0x18 .tol ++ kindRows 0x20 .lo ++ kindRows 0x28 .hi ++
    counterRows ++ fiveRows 0x38 .arg ++ recordRows ++ fiveRows 0x48 .outF ++ kindRows 0x50 .t ++ viewRows ++
    fiveRows 0x61 .valF

/-- The register of a number, or none where the number is unlisted (10_state.md R16). -/
def regOf (n : Byte) : Option Reg := (regMap.find? (fun row => row.1 == n)).map (·.2)

/-- The access code of a register (10_state.md R16). -/
def Reg.access : Reg → Access
  | .cmd => .wo
  | .err => .w1c
  | .expectedBits | .wdUs | .scale | .pvcfg | .markers | .nominal _ | .tol _ => .rwc
  | .txBits | .txRepeats | .pktW0 | .pktW1 | .pktW2 | .arg _ => .rw
  | .status | .lo _ | .hi _ | .violCnt | .lenMissCnt | .pktCnt | .chkFailCnt | .res0 | .outCode0 | .outCode1
  | .outCode2 | .outBits | .outAvgPulse | .outAvgShort | .outAvgLong | .outPv | .outF _ | .t _ | .decDbg | .encDbg
  | .valPv | .valF _ => .ro

/-- `ARG<i>`. -/
def Args.get (a : Args) (i : Fin 5) : U32 :=
  match i with
  | 0 => a.a0
  | 1 => a.a1
  | 2 => a.a2
  | 3 => a.a3
  | 4 => a.a4

/-- `ARG<i>` replaced. -/
def Args.set (a : Args) (i : Fin 5) (v : U32) : Args :=
  match i with
  | 0 => { a with a0 := v }
  | 1 => { a with a1 := v }
  | 2 => { a with a2 := v }
  | 3 => { a with a3 := v }
  | 4 => { a with a4 := v }

/-- The field `f<i>` of a validator result. -/
def PvResult.field (r : PvResult) (i : Fin 5) : U32 :=
  match i with
  | 0 => r.f0
  | 1 => r.f1
  | 2 => r.f2
  | 3 => r.f3
  | 4 => r.f4

/-- The content of a register, zero-extended to 32 bits; a write-only register reads 0 (45_host_control.md R196,
10_state.md R16). -/
def Reg.read (r : Reg) (s : State) : U32 :=
  match r with
  | .cmd => 0
  | .status => s.statusWord
  | .err => s.err.word
  | .expectedBits => s.cfg.expectedBits.setWidth 32
  | .wdUs => s.cfg.wdUs
  | .scale => s.scale
  | .pvcfg => s.cfg.pvcfgWord
  | .markers => s.cfg.markersWord
  | .txBits => s.txBits.setWidth 32
  | .txRepeats => s.txRepeats.setWidth 32
  | .pktW0 => s.pkt.b0 ++ s.pkt.b1 ++ s.pkt.b2 ++ s.pkt.b3
  | .pktW1 => s.pkt.b4 ++ s.pkt.b5 ++ s.pkt.b6 ++ s.pkt.b7
  | .pktW2 => s.pkt.b8 ++ s.pkt.b9 ++ 0#16
  | .nominal k => s.cfg.nominal.get k
  | .tol k => (s.cfg.tol.get k).setWidth 32
  | .lo k => s.cfg.lo k
  | .hi k => s.cfg.hi k
  | .violCnt => s.cnt.viol
  | .lenMissCnt => s.cnt.lenMiss
  | .pktCnt => s.cnt.pkt
  | .chkFailCnt => s.cnt.chkFail
  | .arg i => s.args.get i
  | .res0 => s.res0.setWidth 32
  | .outCode0 => s.outReg.code.extractLsb' 0 32
  | .outCode1 => s.outReg.code.extractLsb' 32 32
  | .outCode2 => (s.outReg.code.extractLsb' 64 16).setWidth 32
  | .outBits => s.outReg.bits.setWidth 32
  | .outAvgPulse => s.outReg.avgPulse
  | .outAvgShort => s.outReg.avgShort
  | .outAvgLong => s.outReg.avgLong
  | .outPv => s.outReg.pv.word
  | .outF i => s.outReg.pv.field i
  | .t k => s.lut.get k
  | .decDbg => s.dec.dbgWord
  | .encDbg => s.enc.dbgWord
  | .valPv => s.valPv.word
  | .valF i => s.valPv.field i

/-- Reading a register number: an unlisted one reads 0 (10_state.md R16, 20_memory.md R45). -/
def readNumber (n : Byte) (s : State) : U32 :=
  match regOf n with
  | some r => r.read s
  | none => 0

/-- Whether `data` is legal for the register, tested on the whole word for the numeric ones (45_host_control.md
R195). -/
def Reg.legal (r : Reg) (data : U32) : Bool :=
  match r with
  | .tol _ => decide (data.toNat ≤ 99)
  | .expectedBits => decide (1 ≤ data.toNat) && decide (data.toNat ≤ 80)
  | .scale => data != 0
  | .pvcfg => (variantOfCode (data.extractLsb' 0 2)).isSome
  | .txBits | .txRepeats => decide (data.toNat ≤ 127)
  | .cmd | .status | .err | .wdUs | .markers | .pktW0 | .pktW1 | .pktW2 | .nominal _ | .lo _ | .hi _ | .violCnt
  | .lenMissCnt | .pktCnt | .chkFailCnt | .arg _ | .res0 | .outCode0 | .outCode1 | .outCode2 | .outBits
  | .outAvgPulse | .outAvgShort | .outAvgLong | .outPv | .outF _ | .t _ | .decDbg | .encDbg | .valPv | .valF _ => true

/-- Whether the session phase admits a write to the register (45_host_control.md R195, R197). -/
def Reg.writable (r : Reg) (session : Session) : Bool :=
  match r.access, session with
  | .rwc, .config => true
  | .rw, .config => true
  | .rw, .running => true
  | _, _ => false

/-- The implemented bits of `data` stored in a writable register (45_host_control.md R195); a register no HOST write
reaches keeps the state. -/
def Reg.store (r : Reg) (data : U32) (s : State) : State :=
  match r with
  | .expectedBits => { s with cfg := { s.cfg with expectedBits := data.setWidth 7 } }
  | .wdUs => { s with cfg := { s.cfg with wdUs := data } }
  | .scale => { s with scale := data }
  | .pvcfg =>
    { s with
      cfg :=
        { s.cfg with
          variant := (variantOfCode (data.extractLsb' 0 2)).getD s.cfg.variant
          chkMode := if data.getLsbD 2 then .crc8 else .additive
          crcPoly := data.extractLsb' 8 8
          crcInit := data.extractLsb' 16 8 } }
  | .markers => { s with cfg := { s.cfg with marker4 := data.extractLsb' 0 8, marker5 := data.extractLsb' 8 8 } }
  | .txBits => { s with txBits := data.setWidth 7 }
  | .txRepeats => { s with txRepeats := data.setWidth 7 }
  | .pktW0 =>
    { s with
      pkt :=
        { s.pkt with
          b0 := data.extractLsb' 24 8, b1 := data.extractLsb' 16 8, b2 := data.extractLsb' 8 8,
          b3 := data.extractLsb' 0 8 } }
  | .pktW1 =>
    { s with
      pkt :=
        { s.pkt with
          b4 := data.extractLsb' 24 8, b5 := data.extractLsb' 16 8, b6 := data.extractLsb' 8 8,
          b7 := data.extractLsb' 0 8 } }
  | .pktW2 => { s with pkt := { s.pkt with b8 := data.extractLsb' 24 8, b9 := data.extractLsb' 16 8 } }
  | .nominal k => { s with cfg := { s.cfg with nominal := s.cfg.nominal.set k data } }
  | .tol k => { s with cfg := { s.cfg with tol := s.cfg.tol.set k (data.setWidth 7) } }
  | .arg i => { s with args := s.args.set i data }
  | .cmd | .status | .err | .lo _ | .hi _ | .violCnt | .lenMissCnt | .pktCnt | .chkFailCnt | .res0 | .outCode0
  | .outCode1 | .outCode2 | .outBits | .outAvgPulse | .outAvgShort | .outAvgLong | .outPv | .outF _ | .t _ | .decDbg
  | .encDbg | .valPv | .valF _ => s

end Sys2Proof.Machine
end

