-- ==== Sys2Proof/Machine/HostPort.lean ====
section
/-! DEFINITION. The HOST port: LOCK, RX_START, RX_CANCEL, TX_CANCEL, the command dispatch, CFG_WRITE, CFG_READ
(45_host_control.md), and RESET (70_reset_and_hazards.md R250). -/

namespace Sys2Proof.Machine

/-- LOCK (45_host_control.md R198): from Config, with every `NOMINAL[k]` and `EXPECTED_BITS` not 0, to Running. -/
def lockOp (s : State) : State :=
  gated (s.session == .config && s.cfg.nominal.allOf (· != 0) && s.cfg.expectedBits != 0)
    (fun s => { s with session := .running }) s

/-- RX_START (45_host_control.md R199): the receive channel enabled afresh. -/
def rxStartOp (s : State) : State :=
  gated (s.session == .running)
    (fun s => decReset { s with rx := { s.rx with rxEn := true, prevValid := false, wdArmed := false } }) s

/-- RX_CANCEL (45_host_control.md R200). -/
def rxCancelOp (s : State) : State := gated (s.session != .halted) stopRx s

/-- TX_CANCEL (45_host_control.md R201): no TX_DONE, `T[]` and the shadow registers keep their values. -/
def txCancelOp (s : State) : State := gated (s.session != .halted) stopTx s

/-- The dispatch of a command code (45_host_control.md R204): in Halted every code is refused (R205). FRAME takes its
variant from `PVCFG`. -/
def commandOp (c : Byte) (s : State) : State :=
  if s.session = .halted then raise .configurationError s
  else
    match c.toNat with
    | 1 => lockOp s
    | 2 => rxStartOp s
    | 3 => rxCancelOp s
    | 4 => encodeOp s
    | 5 => txCancelOp s
    | 6 => calLoadOp s
    | 7 => calFailOp s
    | 8 => validateOp s
    | 9 => frameOp s.cfg.variant s
    | 10 => classifyOp s
    | _ => raise .configurationError s

/-- A write to a register that is neither `CMD` nor `ERR` (45_host_control.md R195): refused in Halted, for an unlisted
or read-only number, in a phase that does not allow it, for an illegal value; else stored. -/
def registerWrite (n : Byte) (data : U32) (s : State) : State :=
  match regOf n with
  | some r => gated (r.writable s.session && r.legal data) (r.store data) s
  | none => raise .configurationError s

/-- CFG_WRITE (45_host_control.md R195): a write to `CMD` is the dispatch (R204), a write to `ERR` clears bits in every
phase (R203), every other write stores or is refused. -/
def cfgWriteOp (n : Byte) (data : U32) (s : State) : State :=
  match regOf n with
  | some .cmd => commandOp (data.extractLsb' 0 8) s
  | some .err => { s with err := s.err.writeOneToClear data }
  | _ => registerWrite n data s

/-- CFG_READ (45_host_control.md R196): the answer is shown on the HOST port; nothing else changes. -/
def cfgReadOp (n : Byte) (s : State) : State := { s with io := { s.io with rdata := some (readNumber n s) } }

/-- RESET (70_reset_and_hazards.md R250): every piece of the block's state at its reset value. The deployment and the
inputs still to come are not the block's state (log 8). -/
def resetOp (s : State) : State := { State.reset with deploy := s.deploy, pending := s.pending }

/-- CFG_WRITE (45_host_control.md R195). -/
def execCfgWrite (reg : Byte) (data : U32) (s : State) : Result := .next (cfgWriteOp reg data s)

/-- CFG_READ (45_host_control.md R196). -/
def execCfgRead (reg : Byte) (s : State) : Result := .next (cfgReadOp reg s)

/-- LOCK (45_host_control.md R198). -/
def execLock (s : State) : Result := .next (lockOp s)

/-- RX_START (45_host_control.md R199). -/
def execRxStart (s : State) : Result := .next (rxStartOp s)

/-- RX_CANCEL (45_host_control.md R200). -/
def execRxCancel (s : State) : Result := .next (rxCancelOp s)

/-- TX_CANCEL (45_host_control.md R201). -/
def execTxCancel (s : State) : Result := .next (txCancelOp s)

/-- A reserved command code (10_state.md R17, 30_encoding.md R76): ConfigurationError, whatever the code. -/
def execCmdReserved (_code : Byte) (s : State) : Result := .next (raise .configurationError s)

/-- RESET (70_reset_and_hazards.md R250). -/
def execReset (s : State) : Result := .next (resetOp s)

end Sys2Proof.Machine
end

