-- ==== Sys2Proof/Machine/Dispatch.lean ====
section
/-! DEFINITION. One arm per operation of the table, each one call of its meaning. -/

namespace Sys2Proof.Machine

def exec (i : Instr) (s : State) : Host.Outcome State Fault Refusal :=
  match i with
  | .edge level ts => Sys2Proof.Machine.execEdge level ts s
  | .evPulse dur => Sys2Proof.Machine.execEvPulse dur s
  | .evIvSyncGap dur => Sys2Proof.Machine.execEvIvSyncGap dur s
  | .evIvPulse dur => Sys2Proof.Machine.execEvIvPulse dur s
  | .evIvShort dur => Sys2Proof.Machine.execEvIvShort dur s
  | .evIvLong dur => Sys2Proof.Machine.execEvIvLong dur s
  | .evIvSync dur => Sys2Proof.Machine.execEvIvSync dur s
  | .evIvGap dur => Sys2Proof.Machine.execEvIvGap dur s
  | .evIvUnknown dur => Sys2Proof.Machine.execEvIvUnknown dur s
  | .evWd => Sys2Proof.Machine.execEvWd s
  | .evReserved6 dur => Sys2Proof.Machine.execEvReserved6 dur s
  | .evReservedA dur => Sys2Proof.Machine.execEvReservedA dur s
  | .evReservedB dur => Sys2Proof.Machine.execEvReservedB dur s
  | .evReservedC dur => Sys2Proof.Machine.execEvReservedC dur s
  | .evReservedD dur => Sys2Proof.Machine.execEvReservedD dur s
  | .evReservedE dur => Sys2Proof.Machine.execEvReservedE dur s
  | .evReservedF dur => Sys2Proof.Machine.execEvReservedF dur s
  | .cfgWrite reg data => Sys2Proof.Machine.execCfgWrite reg data s
  | .cfgRead reg => Sys2Proof.Machine.execCfgRead reg s
  | .lock => Sys2Proof.Machine.execLock s
  | .rxStart => Sys2Proof.Machine.execRxStart s
  | .rxCancel => Sys2Proof.Machine.execRxCancel s
  | .encode => Sys2Proof.Machine.execEncode s
  | .txCancel => Sys2Proof.Machine.execTxCancel s
  | .calLoad => Sys2Proof.Machine.execCalLoad s
  | .calFail => Sys2Proof.Machine.execCalFail s
  | .validate => Sys2Proof.Machine.execValidate s
  | .frameV40 => Sys2Proof.Machine.execFrameV40 s
  | .frameV48 => Sys2Proof.Machine.execFrameV48 s
  | .frameV80 => Sys2Proof.Machine.execFrameV80 s
  | .classify => Sys2Proof.Machine.execClassify s
  | .cmdReserved code => Sys2Proof.Machine.execCmdReserved code s
  | .seqStep => Sys2Proof.Machine.execSeqStep s
  | .reset => Sys2Proof.Machine.execReset s

end Sys2Proof.Machine
end

