-- ==== Sys2Proof/Machine/Step.lean ====
section
/-! DEFINITION. One step of the block: the next operation, chosen from the inputs still to come and from what the
block does by itself (43_decoder.md R150, R151; 41_encoder.md R105; 20_memory.md R49 to R51). -/

namespace Sys2Proof.Machine

/-- One step. The one-step outputs of the step before end first (log 12). With an input to come: if the watchdog's
condition holds and the idle time exceeds `WD_US` before the input arrives, the watchdog goes first and the input
waits (43_decoder.md R151); else the input is taken. With none: a Busy sequencer goes on, then a ready watchdog fires
(43_decoder.md R151, end of the stream), else the block rests (log 3). -/
def step (s : State) : Host.Outcome State Fault Refusal :=
  match s.pending with
  | [] =>
    if s.enc.encState = .busy then exec .seqStep (quietPort s)
    else if s.wdReady then exec .evWd (quietPort s)
    else .next (quietPort s)
  | stim :: rest =>
    if s.wdReady && decide (s.cfg.wdUs.toNat < s.idle + stim.delay) then exec .evWd (quietPort s)
    else
      exec (decode s.cfg.variant stim.word) { quietPort s with pending := rest, idle := s.idle + stim.delay }

/-- `s` with a table row's word as its next input, at once and with the idle time restarted, so that the watchdog does
not go before it (log 1, log 7). -/
def State.withFetchWord (s : State) (nbits w : Nat) : State :=
  match tableWord nbits w with
  | some pw => { s with pending := { delay := 0, word := pw } :: s.pending, idle := 0 }
  | none => s

end Sys2Proof.Machine
end

