-- ==== Sys2Proof/Safety.lean ====
section
/-! DEFINITION. The terms the claims use: the well-formed configuration (00_scope.md R7), the invariant of the reachable
states (43_decoder.md R155), what a violation and an acceptance leave, the plan of a transmission (41_encoder.md R104)
and the ideal edge stream (43_decoder.md R158). -/

namespace Sys2Proof.Machine

/-! ## Configuration -/

/-- The bands are pairwise disjoint (00_scope.md R7 (b), 42_classifier.md R125). -/
def Cfg.BandsDisjoint (c : Cfg) : Prop :=
  ∀ j k : Kind, j ≠ k → (c.hi j).toNat < (c.lo k).toNat ∨ (c.hi k).toNat < (c.lo j).toNat

/-- `WF` (00_scope.md R7). -/
structure WF (s : State) : Prop where
  nominal : ∀ k, 1 ≤ (s.cfg.nominal.get k).toNat
  tol : ∀ k, (s.cfg.tol.get k).toNat ≤ 99
  bands : s.cfg.BandsDisjoint
  expectedPos : 1 ≤ s.cfg.expectedBits.toNat
  expectedMax : s.cfg.expectedBits.toNat ≤ 80
  scale : s.scale.toNat ≠ 0

/-! ## The invariant -/

/-- What holds of the decoder in every state the block can reach (43_decoder.md R155 (a) to (e); the sums are exact
while the counts are, 10_state.md R12). -/
structure DecInv (d : Decoder) : Prop where
  syncLe : d.syncCount.toNat ≤ 2
  wait : d.state = .syncWait →
    d.bitCount = 0 ∧ d.code = 0 ∧ d.cntShort = 0 ∧ d.cntLong = 0 ∧ d.sumShort = 0 ∧ d.sumLong = 0
  collect : d.state = .dataCollect → d.syncCount = 0
  bits : d.bitCount.toNat < 255 → d.cntShort.toNat + d.cntLong.toNat = d.bitCount.toNat
  code : d.bitCount.toNat ≤ 80 → d.code.toNat < 2 ^ d.bitCount.toNat
  pulses :
    d.cntPulse.toNat =
      min 255
        ((match d.state with
            | .syncWait => d.syncCount.toNat
            | .dataCollect => d.bitCount.toNat + 3) +
          (match d.phase with
            | .expectPulse => 0
            | .expectInterval => 1))
  sumPulse : d.cntPulse.toNat < 255 → d.sumPulse.toNat ≤ d.cntPulse.toNat * (2 ^ 32 - 1)
  sumShort : d.cntShort.toNat < 255 → d.sumShort.toNat ≤ d.cntShort.toNat * (2 ^ 32 - 1)
  sumLong : d.cntLong.toNat < 255 → d.sumLong.toNat ≤ d.cntLong.toNat * (2 ^ 32 - 1)

/-- The configuration registers hold legal values (10_state.md R20 to R22), and a Running session has a usable profile
(45_host_control.md R198). -/
structure CfgInv (s : State) : Prop where
  tol : ∀ k, (s.cfg.tol.get k).toNat ≤ 99
  expectedMax : s.cfg.expectedBits.toNat ≤ 80
  scale : s.scale.toNat ≠ 0
  running : s.session = .running → (∀ k, (s.cfg.nominal.get k).toNat ≠ 0) ∧ 1 ≤ s.cfg.expectedBits.toNat
  deploy : s.deploy.Legal

/-- Which session phases allow a receiving, an armed or a Busy block (45_host_control.md R199, R205;
60_exceptions.md R221), and that `CALFAIL` marks Halted (10_state.md R19). -/
structure SessionInv (s : State) : Prop where
  calFail : s.err.calFail = true ↔ s.session = .halted
  rxEn : s.rx.rxEn = true → s.session = .running
  prevValid : s.rx.prevValid = true → s.rx.rxEn = true
  wdArmed : s.rx.wdArmed = true → s.rx.prevValid = true
  busy : s.enc.encState = .busy → s.session = .running

/-- The positions at which the pair handed over last was a pulse, so that a gap follows (41_encoder.md R105). -/
def SeqPos.gapNext : SeqPos → Bool
  | .p1 | .p2 | .p3 | .bp | .tp => false
  | .sg1 | .sg2 | .sy | .bg | .tg => true

/-- The positions of the preamble (41_encoder.md R102). -/
def SeqPos.inPreamble : SeqPos → Bool
  | .p1 | .sg1 | .p2 | .sg2 | .p3 | .sy => true
  | .bp | .bg | .tp | .tg => false

/-- The encoder's position stays within its operands (10_state.md R14), an Idle encoder has none (41_encoder.md R105),
no duration it can emit is 0 (30_encoding.md R64), and after each pair but the first the level handed over last is the
one its position asks for (R104, "strictly alternate"). The clause on the output level is log 11's. -/
structure EncInv (s : State) : Prop where
  idle : s.enc.encState = .idle → s.enc.repIdx = 0 ∧ s.enc.bitIdx = 0 ∧ s.enc.step = .p1
  rep : s.enc.encState = .busy → s.enc.repIdx.toNat < s.enc.sReps.toNat
  bit : s.enc.encState = .busy → s.enc.bitIdx.toNat < s.enc.sBits.toNat
  bitsMax : s.enc.encState = .busy → s.enc.sBits.toNat ≤ 80
  lut : s.enc.encState = .busy → ∀ k, (s.lut.get k).toNat ≠ 0
  preamble : s.enc.step.inPreamble = true → s.enc.bitIdx = 0
  lastPair : s.enc.step ≠ .p1 → s.txs.getLast?.map (·.level) = some s.enc.step.gapNext
  level : s.txLevel = false

/-- A validator result of an accepted packet is valid exactly when it carries no error, and carries only the codes 0, 3
and 4 (30_encoding.md R71, 44_validator.md R186). -/
def PvResult.Sound (r : PvResult) : Prop :=
  (r.valid = true ↔ r.err = 0) ∧ (r.err = 0 ∨ r.err = 3 ∨ r.err = 4)

/-- The output record registers hold the last record (10_state.md R25), `PKT_CNT` counts the records (R24), and no
segment lasts 0 µs (30_encoding.md R64). -/
structure StreamInv (s : State) : Prop where
  last : s.outReg = s.out.getLast?.getD .zero
  count : s.cnt.pkt.toNat = min s.out.length (2 ^ 32 - 1)
  sound : ∀ r ∈ s.out, r.pv.Sound
  durations : ∀ g ∈ s.txs, g.dur.toNat ≠ 0

/-- The invariant of the block. -/
structure Inv (s : State) : Prop where
  dec : DecInv s.dec
  cfg : CfgInv s
  session : SessionInv s
  enc : EncInv s
  stream : StreamInv s

/-! ## Errors and acceptance -/

/-- `t` is `s` after a ProtocolViolation: the counter, saturating, and the decoder's reset state; nothing else
(43_decoder.md R137, 60_exceptions.md R222). -/
def Violated (s t : State) : Prop :=
  t.cnt.viol.toNat = min (s.cnt.viol.toNat + 1) (2 ^ 32 - 1) ∧
  t.dec = .resetState ∧
  t = { s with dec := t.dec, cnt := { s.cnt with viol := t.cnt.viol } }

/-- `t` is `s` after a refused access or command: `ERR.CFGERR` set, nothing else (60_exceptions.md R225). -/
def RefusedOnly (s t : State) : Prop :=
  t.err.cfgErr = true ∧ t = { s with err := { s.err with cfgErr := t.err.cfgErr } }

/-- The floor of `sum / count`, and 0 when the count is 0 (43_decoder.md R148). -/
def floorAverage (sum cnt : Nat) : Nat := if cnt = 0 then 0 else sum / cnt

/-- `t` is `s` after the acceptance of the packet the decoder holds (43_decoder.md R144, R148, R149): one record
appended, mirrored and counted, PKT_READY, the decoder's reset state; on a failed check `CHKFAIL` and its counter
besides (60_exceptions.md R224); nothing else. -/
def Accepted (s t : State) : Prop :=
  ∃ rec : OutRecord,
    rec.code = s.dec.code ∧ rec.bits = s.dec.bitCount ∧
    rec.avgPulse.toNat = floorAverage s.dec.sumPulse.toNat s.dec.cntPulse.toNat % 2 ^ 32 ∧
    rec.avgShort.toNat = floorAverage s.dec.sumShort.toNat s.dec.cntShort.toNat % 2 ^ 32 ∧
    rec.avgLong.toNat = floorAverage s.dec.sumLong.toNat s.dec.cntLong.toNat % 2 ^ 32 ∧
    rec.pv = validateResult s.deploy s.cfg s.dec.code s.dec.bitCount ∧
    t.out = s.out ++ [rec] ∧ t.outReg = rec ∧ t.io.pktReady = true ∧ t.dec = .resetState ∧
    t.cnt.pkt.toNat = min (s.cnt.pkt.toNat + 1) (2 ^ 32 - 1) ∧
    t.cnt.chkFail.toNat =
      (if rec.pv.err = 4 then min (s.cnt.chkFail.toNat + 1) (2 ^ 32 - 1) else s.cnt.chkFail.toNat) ∧
    t.err.chkFail = (s.err.chkFail || rec.pv.err == 4) ∧
    t =
      { s with
        dec := t.dec, out := t.out, outReg := t.outReg, io := { s.io with pktReady := t.io.pktReady },
        cnt := { s.cnt with pkt := t.cnt.pkt, chkFail := t.cnt.chkFail },
        err := { s.err with chkFail := t.err.chkFail } }

/-- `t` is `s` after a CalibrationFailure (60_exceptions.md R221): `CALFAIL`, Halted, both channels stopped, FATAL;
nothing else. -/
def HaltedByCalibration (s t : State) : Prop :=
  t =
    { s with
      session := .halted, err := { s.err with calFail := true }, dec := .resetState,
      rx := { s.rx with rxEn := false, prevValid := false, wdArmed := false },
      enc := { s.enc with encState := .idle, repIdx := 0, bitIdx := 0, step := .p1 }, txLevel := false,
      io := { s.io with fatal := true } }

/-! ## Families of operations -/

/-- The interval event of a classified kind, as EDGE hands it to the decoder (42_classifier.md R120). -/
def intervalEvent (k : Option Kind) (d : U32) : Instr :=
  match k with
  | some .syncGap => .evIvSyncGap d
  | some .pulse => .evIvPulse d
  | some .short => .evIvShort d
  | some .long => .evIvLong d
  | some .sync => .evIvSync d
  | some .gap => .evIvGap d
  | none => .evIvUnknown d

/-- The kind of an interval event; the reserved types are intervals of kind Unknown (30_encoding.md R76). -/
def intervalKind : Instr → Option (Option Kind)
  | .evIvSyncGap _ => some (some .syncGap)
  | .evIvPulse _ => some (some .pulse)
  | .evIvShort _ => some (some .short)
  | .evIvLong _ => some (some .long)
  | .evIvSync _ => some (some .sync)
  | .evIvGap _ => some (some .gap)
  | .evIvUnknown _ | .evReserved6 _ | .evReservedA _ | .evReservedB _ | .evReservedC _ | .evReservedD _
  | .evReservedE _ | .evReservedF _ => some none
  | .edge _ _ | .evPulse _ | .evWd | .cfgWrite _ _ | .cfgRead _ | .lock | .rxStart | .rxCancel | .encode | .txCancel
  | .calLoad | .calFail | .validate | .frameV40 | .frameV48 | .frameV80 | .classify | .cmdReserved _ | .seqStep
  | .reset => none

/-- What a decoder is handed: a pulse, an interval of any kind, or the synthetic Gap (43_decoder.md R135). -/
def isEvent : Instr → Bool
  | .evPulse _ | .evWd => true
  | i => (intervalKind i).isSome

/-- The events of a preamble: `P SG P SG P SY` (30_encoding.md R78). -/
def preambleEvents (p1 g1 p2 g2 p3 g3 : U32) : List Instr :=
  [.evPulse p1, .evIvSyncGap g1, .evPulse p2, .evIvSyncGap g2, .evPulse p3, .evIvSync g3]

/-- The pairs of state and kind that the transition table accepts (43_decoder.md R139, R152). -/
def inTable : DecState → Option Kind → Bool
  | .syncWait, some .syncGap => true
  | .syncWait, some .sync => true
  | .dataCollect, some .short => true
  | .dataCollect, some .long => true
  | .dataCollect, some .gap => true
  | _, _ => false

/-- The operations of the receive channel: edges and events (20_memory.md R49). -/
def isReceive : Instr → Bool
  | .edge _ _ | .evPulse _ | .evWd => true
  | i => (intervalKind i).isSome

/-- A run of operations, one after the other, to the first that does not answer a next state. -/
def execAll : List Instr → State → Result
  | [], s => .next s
  | i :: is, s =>
    match exec i s with
    | .next t => execAll is t
    | .fault r => .fault r
    | .refused r => .refused r

/-! ## The register file -/

/-- What each listed register but `CMD`, `STATUS` and `ERR` reads, in numbers (10_state.md R16, R20 to R27; the bounds
by 42_classifier.md R121). `k` stands for a kind, at the offset of its kind code (30_encoding.md R61). -/
structure RegisterContents (s : State) : Prop where
  expectedBits : (readNumber 0x03#8 s).toNat = s.cfg.expectedBits.toNat
  wdUs : readNumber 0x04#8 s = s.cfg.wdUs
  scale : readNumber 0x05#8 s = s.scale
  pvcfg :
    (readNumber 0x06#8 s).toNat =
      (match s.cfg.variant with
        | .v40 => 0
        | .v48 => 1
        | .v80 => 2) +
      (match s.cfg.chkMode with
        | .additive => 0
        | .crc8 => 4) + 2 ^ 8 * s.cfg.crcPoly.toNat + 2 ^ 16 * s.cfg.crcInit.toNat
  markers : (readNumber 0x07#8 s).toNat = s.cfg.marker4.toNat + 2 ^ 8 * s.cfg.marker5.toNat
  txBits : (readNumber 0x08#8 s).toNat = s.txBits.toNat
  txRepeats : (readNumber 0x09#8 s).toNat = s.txRepeats.toNat
  pktW0 : (readNumber 0x0A#8 s).toNat = s.pkt.memRead 0 4
  pktW1 : (readNumber 0x0B#8 s).toNat = s.pkt.memRead 4 4
  pktW2 : (readNumber 0x0C#8 s).toNat = 2 ^ 16 * s.pkt.memRead 8 2
  nominal : ∀ k, readNumber (0x10#8 + (kindCode (some k)).setWidth 8) s = s.cfg.nominal.get k
  tol : ∀ k, (readNumber (0x18#8 + (kindCode (some k)).setWidth 8) s).toNat = (s.cfg.tol.get k).toNat
  lo : ∀ k,
    (readNumber (0x20#8 + (kindCode (some k)).setWidth 8) s).toNat =
      ((s.cfg.nominal.get k).toNat * (100 - (s.cfg.tol.get k).toNat) + 99) / 100
  hi : ∀ k,
    (readNumber (0x28#8 + (kindCode (some k)).setWidth 8) s).toNat =
      min ((s.cfg.nominal.get k).toNat * (100 + (s.cfg.tol.get k).toNat) / 100) (2 ^ 32 - 1)
  violCnt : readNumber 0x30#8 s = s.cnt.viol
  lenMissCnt : readNumber 0x31#8 s = s.cnt.lenMiss
  pktCnt : readNumber 0x32#8 s = s.cnt.pkt
  chkFailCnt : readNumber 0x33#8 s = s.cnt.chkFail
  arg0 : readNumber 0x38#8 s = s.args.a0
  arg1 : readNumber 0x39#8 s = s.args.a1
  arg2 : readNumber 0x3A#8 s = s.args.a2
  arg3 : readNumber 0x3B#8 s = s.args.a3
  arg4 : readNumber 0x3C#8 s = s.args.a4
  res0 : (readNumber 0x3F#8 s).toNat = s.res0.toNat
  outCode :
    (readNumber 0x40#8 s).toNat + 2 ^ 32 * (readNumber 0x41#8 s).toNat + 2 ^ 64 * (readNumber 0x42#8 s).toNat =
      s.outReg.code.toNat
  outBits : (readNumber 0x43#8 s).toNat = s.outReg.bits.toNat
  outAvgPulse : readNumber 0x44#8 s = s.outReg.avgPulse
  outAvgShort : readNumber 0x45#8 s = s.outReg.avgShort
  outAvgLong : readNumber 0x46#8 s = s.outReg.avgLong
  outPv : (readNumber 0x47#8 s).toNat = s.outReg.pv.valid.toNat + 2 * s.outReg.pv.err.toNat
  outF0 : readNumber 0x48#8 s = s.outReg.pv.f0
  outF1 : readNumber 0x49#8 s = s.outReg.pv.f1
  outF2 : readNumber 0x4A#8 s = s.outReg.pv.f2
  outF3 : readNumber 0x4B#8 s = s.outReg.pv.f3
  outF4 : readNumber 0x4C#8 s = s.outReg.pv.f4
  t : ∀ k, readNumber (0x50#8 + (kindCode (some k)).setWidth 8) s = s.lut.get k
  decDbg :
    (readNumber 0x58#8 s).toNat =
      (s.dec.state == .dataCollect).toNat + 2 * (s.dec.phase == .expectInterval).toNat + 4 * s.dec.syncCount.toNat +
        2 ^ 8 * s.dec.bitCount.toNat
  encDbg :
    (readNumber 0x59#8 s).toNat =
      s.enc.step.code.toNat + 2 ^ 4 * s.enc.bitIdx.toNat + 2 ^ 11 * s.enc.repIdx.toNat
  valPv : (readNumber 0x60#8 s).toNat = s.valPv.valid.toNat + 2 * s.valPv.err.toNat
  valF0 : readNumber 0x61#8 s = s.valPv.f0
  valF1 : readNumber 0x62#8 s = s.valPv.f1
  valF2 : readNumber 0x63#8 s = s.valPv.f2
  valF3 : readNumber 0x64#8 s = s.valPv.f3
  valF4 : readNumber 0x65#8 s = s.valPv.f4

/-! ## Transmission -/

/-- The unit PREAMBLE (41_encoder.md R102). -/
def planPreamble (t : PerKind U32) : List Segment :=
  [⟨true, t.pulse⟩, ⟨false, t.syncGap⟩, ⟨true, t.pulse⟩, ⟨false, t.syncGap⟩, ⟨true, t.pulse⟩, ⟨false, t.sync⟩]

/-- The units BIT0 and BIT1 (41_encoder.md R102). -/
def planBit (t : PerKind U32) (b : Bool) : List Segment :=
  [⟨true, t.pulse⟩, ⟨false, if b then t.long else t.short⟩]

/-- The unit TERM (41_encoder.md R102). -/
def planTerm (t : PerKind U32) : List Segment := [⟨true, t.pulse⟩, ⟨false, t.gap⟩]

/-- The first `n` data bits of a latched packet (41_encoder.md R103). -/
def packetBits (pkt : BitVec 80) (n : Nat) : List Bool := (List.range n).map (packetBit pkt)

/-- FRAMEPLAN (41_encoder.md R104). -/
def framePlan (t : PerKind U32) (pkt : BitVec 80) (n : Nat) : List Segment :=
  planPreamble t ++ (packetBits pkt n).flatMap (planBit t) ++ planTerm t

/-- The plan of an ENCODE: `reps` copies of FRAMEPLAN (41_encoder.md R104). -/
def plan (t : PerKind U32) (pkt : BitVec 80) (n reps : Nat) : List Segment :=
  (List.replicate reps (framePlan t pkt n)).flatten

/-- The number whose `n` binary digits are the bits, first bit most significant (20_memory.md R42). -/
def bitsToNat (bs : List Bool) : Nat := bs.foldl (fun acc b => 2 * acc + b.toNat) 0

/-! ## The ideal edge stream -/

/-- One transition per pair, at the cumulative sums of the durations from time `now`: the transition that ends a pair
goes to the opposite level (43_decoder.md R158). -/
def edgesAfter (now : Nat) : List Segment → List Stimulus
  | [] => []
  | g :: gs =>
    { delay := g.dur.toNat, word := encode (.edge (!g.level) (BitVec.ofNat 32 (now + g.dur.toNat))) } ::
      edgesAfter (now + g.dur.toNat) gs

/-- The ideal noiseless edge stream of a plan from real time `tau`: a transition to level 1 at `tau`, then one at the
end of each pair but the last; nothing ends the final gap (43_decoder.md R158, 95_test_vectors.md P2; log 17). -/
def idealEdges (tau : Nat) (gs : List Segment) : List Stimulus :=
  { delay := 0, word := encode (.edge true (BitVec.ofNat 32 tau)) } :: edgesAfter tau gs.dropLast

end Sys2Proof.Machine
end

