-- ==== Sys2Proof/Certificates/Slice0/Obligations.lean ====
section
/-! DEFINITION. The statements for the provers. Each docstring names the rules of spec/ it formalises; "log n" is
notes/assumptions/n.md, named where a statement rests on a choice of the model. -/

open Sys2Proof Sys2Proof.Machine

/-! ## Encoding -/

/-- Decoding the word of a well-formed operation, under the variant that selects it, gives the operation back, as a
word and as bytes (30_encoding.md R62 to R66, R75; the bytes are log 7's, the selection of FRAME by variant log 6's). -/
def Obligations.DecodeEncodeRoundTrip : Prop :=
  ∀ (v : Variant) (i : Instr), WellFormed i = true → SelectedBy v i = true →
    decode v (encode i) = i ∧ decodeBytes v (encodeBytes i).1 (encodeBytes i).2 = .ok i

/-- Whatever word arrives on a port, it selects a well-formed operation of the configured variant, and the bits that
the encoding ignores do not change it: `data[31:8]` of a command (10_state.md R17), the data of a read
(30_encoding.md R65), the duration field of EV_WD (R63; also R75, R76). -/
def Obligations.EveryWordSelectsAnOperation : Prop :=
  ∀ v : Variant,
    (∀ w : PortWord, WellFormed (decode v w) = true ∧ SelectedBy v (decode v w) = true) ∧
    (∀ (hi : BitVec 24) (c : Byte), decode v (.host (1#1 ++ 0x00#8 ++ hi ++ c)) = decodeCommand v c) ∧
    (∀ (reg : Byte) (data : U32), decode v (.host (0#1 ++ reg ++ data)) = .cfgRead reg) ∧
    (∀ d : U32, decode v (.event (0b1001#4 ++ d)) = .evWd)

/-- A few words of each format, written out from the spec, decode to their operations (95_test_vectors.md sections 0
and 2; 30_encoding.md R62 to R66). -/
def Obligations.SampleWordsDecode : Prop :=
  decode .v40 (.edge 0x1FFFFFF00#33) = .edge true 0xFFFFFF00#32 ∧
  decode .v40 (.edge 0x0000000A9#33) = .edge false 0xA9#32 ∧
  decode .v40 (.event 0x8000001A9#36) = .evPulse 425#32 ∧
  decode .v40 (.event 0x4000022EC#36) = .evIvSync 8940#32 ∧
  decode .v40 (.event 0x900000000#36) = .evWd ∧
  decode .v40 (.host 0x110000001DB#41) = .cfgWrite 0x10#8 475#32 ∧
  decode .v40 (.host 0x10000000004#41) = .encode ∧
  decode .v48 (.host 0x10000000009#41) = .frameV48 ∧
  decode .v40 (.host 0x1000000000B#41) = .cmdReserved 11#8

/-! ## The step -/

/-- A step with an input to come, and no watchdog due before it, runs exactly the operation its word decodes to, a
well-formed one; the input leaves the list, the time before it has passed, the one-step outputs have ended (the
model's scheduling: log 1, log 2, log 12). -/
def Obligations.StepRunsDecodedOperation : Prop :=
  ∀ (s : State) (stim : Stimulus) (rest : List Stimulus),
    s.pending = stim :: rest → ¬(s.wdReady = true ∧ s.cfg.wdUs.toNat < s.idle + stim.delay) →
    WellFormed (decode s.cfg.variant stim.word) = true ∧
    step s = exec (decode s.cfg.variant stim.word) { s with io := .quiet, pending := rest, idle := s.idle + stim.delay }

/-- The watchdog goes before an input that comes more than `WD_US` µs after the last edge taken, and leaves that input
to come (43_decoder.md R150, R151; log 2). -/
def Obligations.WatchdogGoesBeforeALateInput : Prop :=
  ∀ (s : State) (stim : Stimulus) (rest : List Stimulus),
    s.pending = stim :: rest → s.session = .running → s.rx.rxEn = true → s.rx.wdArmed = true →
    s.dec.state = .dataCollect → s.dec.bitCount.toNat = s.cfg.expectedBits.toNat →
    s.cfg.wdUs.toNat < s.idle + stim.delay →
    ∃ t, step s = .next t ∧ exec .evWd { s with io := .quiet } = .next t ∧ t.pending = s.pending ∧ t.idle = s.idle ∧
      t.rx.wdArmed = false ∧ t.dec = .resetState

/-- With no input to come, a Busy sequencer takes its next step, else a ready watchdog fires, else the block rests
(41_encoder.md R105, 43_decoder.md R151 end of the stream; the order is log 3's). -/
def Obligations.StepWithNoInput : Prop :=
  ∀ s : State, s.pending = [] →
    (s.enc.encState = .busy → step s = exec .seqStep { s with io := .quiet }) ∧
    (s.enc.encState = .idle → s.wdReady = true → step s = exec .evWd { s with io := .quiet }) ∧
    (s.enc.encState = .idle → s.wdReady = false → step s = .next { s with io := .quiet })

/-- No operation and no step stops the block: each answers a next state (60_exceptions.md R220, R226). -/
def Obligations.NothingStopsTheBlock : Prop :=
  (∀ (i : Instr) (s : State), ∃ t, exec i s = .next t) ∧ ∀ s : State, ∃ t, step s = .next t

/-! ## Invariants -/

/-- The invariant holds of the state after reset (10_state.md R33). -/
def Obligations.InvariantHoldsAfterReset : Prop := Inv State.reset

/-- Every step keeps the invariant: the decoder facts of 43_decoder.md R155, legal configuration values, the session
rules, the encoder's bounds, the output record and `PKT_CNT` in line with `OUT`, no segment of 0 µs, the last
segment at the level its position asks for. Its clause on the transmit output level is log 11's. -/
def Obligations.EveryStepKeepsTheInvariant : Prop :=
  ∀ s t : State, Inv s → step s = .next t → Inv t

/-- At every acceptance nothing has saturated: the counts are the bit count, each sum is within its count times the
greatest duration, which is far below 2^40, and the averages are exact (43_decoder.md R155 (f), 10_state.md R12). -/
def Obligations.AcceptanceIsExact : Prop :=
  ∀ s : State, Inv s → s.dec.state = .dataCollect → s.dec.phase = .expectInterval →
    s.dec.bitCount.toNat = s.cfg.expectedBits.toNat →
    s.dec.cntPulse.toNat = s.cfg.expectedBits.toNat + 4 ∧
    s.dec.cntShort.toNat + s.dec.cntLong.toNat = s.cfg.expectedBits.toNat ∧
    s.dec.code.toNat < 2 ^ s.cfg.expectedBits.toNat ∧
    s.dec.sumPulse.toNat ≤ s.dec.cntPulse.toNat * (2 ^ 32 - 1) ∧
    s.dec.sumShort.toNat ≤ s.dec.cntShort.toNat * (2 ^ 32 - 1) ∧
    s.dec.sumLong.toNat ≤ s.dec.cntLong.toNat * (2 ^ 32 - 1) ∧
    s.dec.cntPulse.toNat * (2 ^ 32 - 1) < 2 ^ 39 ∧
    (average s.dec.sumPulse s.dec.cntPulse).toNat = floorAverage s.dec.sumPulse.toNat s.dec.cntPulse.toNat ∧
    (average s.dec.sumShort s.dec.cntShort).toNat = floorAverage s.dec.sumShort.toNat s.dec.cntShort.toNat ∧
    (average s.dec.sumLong s.dec.cntLong).toNat = floorAverage s.dec.sumLong.toNat s.dec.cntLong.toNat

/-- After LOCK the configuration is frozen: outside Config no operation but RESET changes the profile, `EXPECTED_BITS`,
`WD_US`, `PVCFG`, `MARKERS` or `SCALE` (45_host_control.md R197, 20_memory.md R53), and none ever changes the
deployment. -/
def Obligations.ConfigurationFrozenAfterLock : Prop :=
  ∀ (i : Instr) (s t : State), exec i s = .next t → i ≠ .reset →
    t.deploy = s.deploy ∧ (s.session ≠ .config → t.cfg = s.cfg ∧ t.scale = s.scale)

/-- The session phase changes in three ways only: LOCK from Config to Running, a CalibrationFailure from Config or
Running to Halted, RESET to Config; so only reset leaves Halted (10_state.md R31). -/
def Obligations.SessionPhaseTransitions : Prop :=
  ∀ (i : Instr) (s t : State), exec i s = .next t →
    t.session = s.session ∨
    (s.session = .config ∧ t.session = .running ∧ (i = .lock ∨ ∃ data, i = .cfgWrite 0x00#8 data)) ∨
    (s.session ≠ .halted ∧ t.session = .halted ∧ t.err.calFail = true ∧
      (i = .calFail ∨ i = .calLoad ∨ ∃ data, i = .cfgWrite 0x00#8 data)) ∨
    (i = .reset ∧ t.session = .config)

/-- `OUT` and `TXS` are append-only, the event counters never fall and `CALFAIL` is never cleared, but by RESET
(10_state.md R19, R24, R29, R30). -/
def Obligations.HistoryOnlyGrows : Prop :=
  ∀ (i : Instr) (s t : State), exec i s = .next t → i ≠ .reset →
    s.out <+: t.out ∧ s.txs <+: t.txs ∧
    s.cnt.viol.toNat ≤ t.cnt.viol.toNat ∧ s.cnt.lenMiss.toNat ≤ t.cnt.lenMiss.toNat ∧
    s.cnt.pkt.toNat ≤ t.cnt.pkt.toNat ∧ s.cnt.chkFail.toNat ≤ t.cnt.chkFail.toNat ∧
    (s.err.calFail = true → t.err.calFail = true)

/-- Sequencer steps and the operations of the receive channel commute (20_memory.md R51). -/
def Obligations.ChannelsCommute : Prop :=
  ∀ (i : Instr) (s : State), isReceive i = true → execAll [i, .seqStep] s = execAll [.seqStep, i] s

/-- What the receive channel does is not changed by any state of the transmit channel: two states that agree but for
the encoder, the LUT, the transmit buffer, the output level and `TXS` receive alike (20_memory.md R51,
60_exceptions.md R238). -/
def Obligations.ReceiveIgnoresTransmitState : Prop :=
  ∀ (i : Instr) (s : State) (enc : Encoder) (lut : PerKind U32) (pkt : Packet) (bits reps : BitVec 7) (level : Bool)
    (txs : List Segment), isReceive i = true →
    ∃ t, exec i s = .next t ∧
      t.enc = s.enc ∧ t.lut = s.lut ∧ t.pkt = s.pkt ∧ t.txBits = s.txBits ∧ t.txRepeats = s.txRepeats ∧
      t.txLevel = s.txLevel ∧ t.txs = s.txs ∧
      exec i
          { s with
            enc := enc, lut := lut, pkt := pkt, txBits := bits, txRepeats := reps, txLevel := level, txs := txs } =
        .next
          { t with
            enc := enc, lut := lut, pkt := pkt, txBits := bits, txRepeats := reps, txLevel := level, txs := txs }

/-! ## Classifier and front end -/

/-- The bounds of a band are the ceiling and the clipped floor of R121; the integer band is the real band, an integer
duration lying in `[LO, HI]` exactly when it lies between `nominal*(1-tol)` and `nominal*(1+tol)`; the nominal lies in
its own band (42_classifier.md R121). -/
def Obligations.BandBoundsAreExact : Prop :=
  ∀ (c : Cfg) (k : Kind) (d : U32) (n t : Nat), n = (c.nominal.get k).toNat → t = (c.tol.get k).toNat → t ≤ 99 →
    (c.lo k).toNat = (n * (100 - t) + 99) / 100 ∧ (c.hi k).toNat = min (n * (100 + t) / 100) (2 ^ 32 - 1) ∧
    (((c.lo k).toNat ≤ d.toNat ∧ d.toNat ≤ (c.hi k).toNat) ↔
      (n * (100 - t) ≤ 100 * d.toNat ∧ 100 * d.toNat ≤ n * (100 + t))) ∧
    (c.lo k).toNat ≤ n ∧ n ≤ (c.hi k).toNat

/-- CLASSIFY, in every configuration: above `WD_US` Gap, whatever the table says; else the first kind in enumeration
order whose band contains the duration, both ends included; else Unknown (42_classifier.md R122, R123, R124). -/
def Obligations.ClassifyIsForceThenFirstMatch : Prop :=
  ∀ (c : Cfg) (d : U32) (k : Kind),
    (c.wdUs.toNat < d.toNat → c.classify d = some .gap) ∧
    (d.toNat ≤ c.wdUs.toNat →
      (c.classify d = some k ↔
        ((c.lo k).toNat ≤ d.toNat ∧ d.toNat ≤ (c.hi k).toNat) ∧
        ∀ j : Kind, (kindCode (some j)).toNat < (kindCode (some k)).toNat →
          ¬((c.lo j).toNat ≤ d.toNat ∧ d.toNat ≤ (c.hi j).toNat)) ∧
      (c.classify d = none ↔ ∀ j : Kind, ¬((c.lo j).toNat ≤ d.toNat ∧ d.toNat ≤ (c.hi j).toNat)))

/-- Under disjoint bands the order is immaterial: up to `WD_US` a duration has the kind `k` exactly when the band of
`k` contains it (42_classifier.md R123, R125). -/
def Obligations.DisjointBandsClassifyByBand : Prop :=
  ∀ (c : Cfg) (d : U32) (k : Kind), c.BandsDisjoint → d.toNat ≤ c.wdUs.toNat →
    (c.classify d = some k ↔ (c.lo k).toNat ≤ d.toNat ∧ d.toNat ≤ (c.hi k).toNat)

/-- CLASSIFY as a command: in Config and Running the kind code of `ARG0` goes to `RES0` and nothing else changes; in
Halted it is refused (42_classifier.md R122, 45_host_control.md R204). -/
def Obligations.ClassifyCommandWritesRes0 : Prop :=
  ∀ s : State,
    (s.session ≠ .halted →
      exec .classify s = .next { s with res0 := kindCode (s.cfg.classify s.args.a0) }) ∧
    (s.session = .halted → ∃ t, exec .classify s = .next t ∧ RefusedOnly s t)

/-- EDGE outside a receiving session is dropped without any change; the first edge taken only records its timestamp and
restarts the idle window (42_classifier.md R120, R126). -/
def Obligations.EdgeDroppedOrRecorded : Prop :=
  ∀ (s : State) (level : Bool) (ts : U32),
    (s.session ≠ .running ∨ s.rx.rxEn = false → exec (.edge level ts) s = .next s) ∧
    (s.session = .running → s.rx.rxEn = true → s.rx.prevValid = false →
      exec (.edge level ts) s =
        .next { s with rx := { rxEn := true, prevTs := ts, prevValid := true, wdArmed := true }, idle := 0 })

/-- Every later edge restarts the idle window, measures the duration modulo 2^32 and hands the decoder a pulse of it
(level 0) or an interval of its classified kind (level 1) (42_classifier.md R120). -/
def Obligations.EdgeMeasuresAndDecodes : Prop :=
  ∀ (s : State) (level : Bool) (ts : U32),
    s.session = .running → s.rx.rxEn = true → s.rx.prevValid = true →
    ∃ (d : U32) (t : State), d.toNat = (ts.toNat + 2 ^ 32 - s.rx.prevTs.toNat) % 2 ^ 32 ∧
      exec (.edge level ts) s = .next t ∧
      exec (if level then intervalEvent (s.cfg.classify d) d else .evPulse d)
          { s with rx := { s.rx with prevTs := ts, wdArmed := true }, idle := 0 } = .next t ∧
      t.rx.prevTs = ts ∧ t.rx.wdArmed = true ∧ t.rx.prevValid = true ∧ t.idle = 0

/-! ## Decoder -/

/-- EV_PULSE when a pulse is expected: its width joins the pulse metric (sum modulo 2^40, count saturating), an
interval is expected next, nothing else changes (43_decoder.md R138). When an interval is expected: a violation. -/
def Obligations.PulseJoinsTheMetric : Prop :=
  ∀ (s : State) (d : U32),
    (s.dec.phase = .expectPulse →
      ∃ t, exec (.evPulse d) s = .next t ∧
        t.dec.sumPulse.toNat = (s.dec.sumPulse.toNat + d.toNat) % 2 ^ 40 ∧
        t.dec.cntPulse.toNat = min (s.dec.cntPulse.toNat + 1) 255 ∧ t.dec.phase = .expectInterval ∧
        t = { s with dec := { s.dec with
          sumPulse := t.dec.sumPulse, cntPulse := t.dec.cntPulse, phase := t.dec.phase } }) ∧
    (s.dec.phase = .expectInterval → ∃ t, exec (.evPulse d) s = .next t ∧ Violated s t)

/-- An interval event of any kind, or the synthetic Gap, when a pulse is expected is a violation, before any look at
the table (43_decoder.md R139, R145). -/
def Obligations.IntervalOutOfTurnIsAViolation : Prop :=
  ∀ (i : Instr) (s : State), s.dec.phase = .expectPulse →
    ((intervalKind i).isSome = true → ∃ t, exec i s = .next t ∧ Violated s t) ∧
    (i = .evWd → ∃ t, exec i s = .next t ∧ Violated { s with rx := { s.rx with wdArmed := false } } t)

/-- EV_IV_SYNCGAP in SyncWait: the sync counter counts to 2, a third SyncGap is a violation (43_decoder.md R140). -/
def Obligations.SyncGapCountsToTwo : Prop :=
  ∀ (s : State) (d : U32), s.dec.state = .syncWait → s.dec.phase = .expectInterval → s.dec.syncCount.toNat ≤ 2 →
    ∃ t, exec (.evIvSyncGap d) s = .next t ∧
      (s.dec.syncCount.toNat < 2 →
        t.dec.syncCount.toNat = s.dec.syncCount.toNat + 1 ∧
        t = { s with dec := { s.dec with syncCount := t.dec.syncCount, phase := .expectPulse } }) ∧
      (s.dec.syncCount.toNat = 2 → Violated s t)

/-- EV_IV_SYNC in SyncWait: with two SyncGaps counted the preamble is complete, `bit_count`, `code` and `sync_count`
are 0 and the pulse metric stays; else it is a violation (43_decoder.md R141, R154). -/
def Obligations.SyncCompletesThePreamble : Prop :=
  ∀ (s : State) (d : U32), s.dec.state = .syncWait → s.dec.phase = .expectInterval →
    ∃ t, exec (.evIvSync d) s = .next t ∧
      (s.dec.syncCount.toNat = 2 →
        t = { s with dec := { s.dec with
          state := .dataCollect, phase := .expectPulse, syncCount := 0, bitCount := 0, code := 0 } }) ∧
      (s.dec.syncCount.toNat ≠ 2 → Violated s t)

/-- EV_IV_SHORT and EV_IV_LONG in DataCollect: one bit, 0 or 1, shifted into `code` modulo 2^80, `bit_count`
saturating, the duration in the metric of its class, nothing else (43_decoder.md R142, R143). -/
def Obligations.ShortAndLongShiftABit : Prop :=
  ∀ (s : State) (d : U32), s.dec.state = .dataCollect → s.dec.phase = .expectInterval →
    (∃ t, exec (.evIvShort d) s = .next t ∧
      t.dec.code.toNat = 2 * s.dec.code.toNat % 2 ^ 80 ∧
      t.dec.bitCount.toNat = min (s.dec.bitCount.toNat + 1) 255 ∧
      t.dec.sumShort.toNat = (s.dec.sumShort.toNat + d.toNat) % 2 ^ 40 ∧
      t.dec.cntShort.toNat = min (s.dec.cntShort.toNat + 1) 255 ∧
      t = { s with dec := { s.dec with
        phase := .expectPulse, code := t.dec.code, bitCount := t.dec.bitCount, sumShort := t.dec.sumShort,
        cntShort := t.dec.cntShort } }) ∧
    (∃ t, exec (.evIvLong d) s = .next t ∧
      t.dec.code.toNat = (2 * s.dec.code.toNat + 1) % 2 ^ 80 ∧
      t.dec.bitCount.toNat = min (s.dec.bitCount.toNat + 1) 255 ∧
      t.dec.sumLong.toNat = (s.dec.sumLong.toNat + d.toNat) % 2 ^ 40 ∧
      t.dec.cntLong.toNat = min (s.dec.cntLong.toNat + 1) 255 ∧
      t = { s with dec := { s.dec with
        phase := .expectPulse, code := t.dec.code, bitCount := t.dec.bitCount, sumLong := t.dec.sumLong,
        cntLong := t.dec.cntLong } })

/-- A Gap, real or synthetic, in DataCollect with the expected number of bits accepts the packet
(43_decoder.md R144, R145, R148, R149). -/
def Obligations.GapAcceptsTheExpectedLength : Prop :=
  ∀ (s : State) (d : U32), s.dec.state = .dataCollect → s.dec.phase = .expectInterval →
    s.dec.bitCount.toNat = s.cfg.expectedBits.toNat →
    (∃ t, exec (.evIvGap d) s = .next t ∧ Accepted s t) ∧
    (∃ t, exec .evWd s = .next t ∧ Accepted { s with rx := { s.rx with wdArmed := false } } t)

/-- A Gap, real or synthetic, in DataCollect with any other number of bits: the attempt is discarded, `LENMISS_CNT`
counts it, no record, no violation, the decoder back in SyncWait (43_decoder.md R144, R145, R156; 60_exceptions.md
R223). -/
def Obligations.GapOfWrongLengthIsDiscarded : Prop :=
  ∀ (s : State) (d : U32), s.dec.state = .dataCollect → s.dec.phase = .expectInterval →
    s.dec.bitCount.toNat ≠ s.cfg.expectedBits.toNat →
    ∃ t, exec (.evIvGap d) s = .next t ∧ t.dec = .resetState ∧
      t.cnt.lenMiss.toNat = min (s.cnt.lenMiss.toNat + 1) (2 ^ 32 - 1) ∧
      t = { s with dec := t.dec, cnt := { s.cnt with lenMiss := t.cnt.lenMiss } } ∧
      exec .evWd s = .next { t with rx := { s.rx with wdArmed := false } }

/-- Every other pair of state and kind is a violation: all intervals of kind Pulse or Unknown, the reserved event types,
and each kind, the synthetic Gap included, in the state that does not expect it (43_decoder.md R146, R147, R152;
30_encoding.md R76). -/
def Obligations.EveryOtherIntervalIsAViolation : Prop :=
  ∀ (i : Instr) (s : State), s.dec.phase = .expectInterval →
    (∀ k : Option Kind, intervalKind i = some k → inTable s.dec.state k = false →
      ∃ t, exec i s = .next t ∧ Violated s t) ∧
    (i = .evWd → s.dec.state = .syncWait →
      ∃ t, exec i s = .next t ∧ Violated { s with rx := { s.rx with wdArmed := false } } t)

/-- From the start of an attempt: a complete preamble reaches DataCollect (43_decoder.md R141); one SyncGap then Sync,
and three SyncGaps, both end reset with one violation and stay in SyncWait throughout (R140, R141, R157); and whatever
events come, where they end in DataCollect there is among them, from a point at which the decoder is in its reset state,
a complete preamble `P SG P SG P SY` (by the whole table, R152). -/
def Obligations.OnlyACompletePreambleIsAccepted : Prop :=
  ∀ (s : State) (p1 p2 p3 g1 g2 g3 : U32), s.dec = .resetState →
    (∃ t, execAll (preambleEvents p1 g1 p2 g2 p3 g3) s = .next t ∧
      t.dec.state = .dataCollect ∧ t.dec.phase = .expectPulse ∧ t.dec.bitCount = 0 ∧ t.dec.code = 0 ∧
      t.dec.syncCount = 0 ∧ t.dec.cntPulse = 3 ∧ t.cnt = s.cnt) ∧
    (∀ is : List Instr,
      is = [.evPulse p1, .evIvSyncGap g1, .evPulse p2, .evIvSync g2] ∨
        is = [.evPulse p1, .evIvSyncGap g1, .evPulse p2, .evIvSyncGap g2, .evPulse p3, .evIvSyncGap g3] →
      (∃ t, execAll is s = .next t ∧ Violated s t) ∧
      ∀ n : Nat, ∃ t, execAll (is.take n) s = .next t ∧ t.dec.state = .syncWait) ∧
    (∀ (is : List Instr) (t : State), (∀ i ∈ is, isEvent i = true) → execAll is s = .next t →
      t.dec.state = .dataCollect →
      ∃ (pre post : List Instr) (q1 h1 q2 h2 q3 h3 : U32) (u : State),
        is = pre ++ preambleEvents q1 h1 q2 h2 q3 h3 ++ post ∧ execAll pre s = .next u ∧ u.dec = .resetState)

/-- A row of data bits, each a pulse and a Short (0) or a Long (1), leaves in `code` the number whose binary digits the
bits are, first bit most significant (20_memory.md R42). -/
def Obligations.BitsAccumulateMostSignificantFirst : Prop :=
  ∀ (s : State) (bits : List Bool) (p sh lo : U32), s.dec.state = .dataCollect → s.dec.phase = .expectPulse →
    s.dec.bitCount = 0 → s.dec.code = 0 → bits.length ≤ 80 →
    ∃ t, execAll (bits.flatMap fun b => [.evPulse p, if b then .evIvLong lo else .evIvShort sh]) s = .next t ∧
      t.dec.code.toNat = bitsToNat bits ∧ t.dec.bitCount.toNat = bits.length ∧ t.dec.state = .dataCollect ∧
      t.dec.phase = .expectPulse

/-- After a violation caused by a pulse the next interval is one more violation, and then the decoder is in step: a
pulse is accepted (43_decoder.md R159). -/
def Obligations.PulseViolationCostsOneMore : Prop :=
  ∀ (s : State) (i : Instr) (d1 d2 : U32), s.dec.phase = .expectInterval → (intervalKind i).isSome = true →
    ∃ t u, execAll [.evPulse d1, i] s = .next t ∧
      t.cnt.viol.toNat = min (s.cnt.viol.toNat + 2) (2 ^ 32 - 1) ∧ t.dec = .resetState ∧
      exec (.evPulse d2) t = .next u ∧ u.cnt = t.cnt ∧ u.dec.cntPulse = 1

/-! ## Validator and framer -/

/-- `validate` with a bit count that is not the variant's length: not valid, LengthMismatch, zero fields
(44_validator.md R180). -/
def Obligations.ValidateRefusesOtherLengths : Prop :=
  ∀ (d : Deployment) (c : Cfg) (code : BitVec 80) (n : BitVec 8), n.toNat ≠ c.variant.bits →
    validateResult d c code n = { valid := false, err := 3, f0 := 0, f1 := 0, f2 := 0, f3 := 0, f4 := 0 }

/-- `validate` of a 40-bit code: the five fields are the bit fields of R172, and it is valid exactly when byte 4 is the
sum of bytes 0 to 3 modulo 256, else ChecksumFailure (44_validator.md R172, R173, R178). -/
def Obligations.ValidateV40FieldsAndCheck : Prop :=
  ∀ (d : Deployment) (c : Cfg) (code : BitVec 80), c.variant = .v40 →
    ∃ r, validateResult d c code 40 = r ∧
      r.f0.toNat = code.toNat / 2 ^ 32 % 256 ∧ r.f1.toNat = code.toNat / 2 ^ 28 % 16 ∧
      r.f2.toNat = code.toNat / 2 ^ 16 % 4096 ∧ r.f3.toNat = code.toNat / 2 ^ 8 % 256 ∧
      r.f4.toNat = code.toNat % 256 ∧
      (r.valid = true ↔
        (code.toNat / 2 ^ 32 % 256 + code.toNat / 2 ^ 24 % 256 + code.toNat / 2 ^ 16 % 256 +
          code.toNat / 2 ^ 8 % 256) % 256 = code.toNat % 256) ∧
      r.err = (if r.valid then 0 else 4)

/-- `validate` of a 48-bit code: the fields of R174, valid exactly when bytes 4 and 5 are the configured markers
(44_validator.md R174, R175). -/
def Obligations.ValidateV48FieldsAndMarkers : Prop :=
  ∀ (d : Deployment) (c : Cfg) (code : BitVec 80), c.variant = .v48 →
    ∃ r, validateResult d c code 48 = r ∧
      r.f0.toNat = code.toNat / 2 ^ 40 % 256 ∧ r.f1.toNat = code.toNat / 2 ^ 28 % 4096 ∧
      r.f2.toNat = code.toNat / 2 ^ 16 % 4096 ∧ r.f3.toNat = code.toNat / 2 ^ 8 % 256 ∧
      r.f4.toNat = code.toNat % 256 ∧
      (r.valid = true ↔
        code.toNat / 2 ^ 8 % 256 = c.marker4.toNat ∧ code.toNat % 256 = c.marker5.toNat) ∧
      r.err = (if r.valid then 0 else 4)

/-- `validate` of an 80-bit code: the fields of R176, valid exactly when byte 9 is the configured check over bytes 0 to
8, additive or the deployment's `crc8`, whichever function that is (44_validator.md R176, R177; log 10). -/
def Obligations.ValidateV80FieldsAndCheck : Prop :=
  ∀ (d : Deployment) (c : Cfg) (code : BitVec 80), c.variant = .v80 →
    ∃ (r : PvResult) (bs : List Byte), validateResult d c code 80 = r ∧
      bs.map BitVec.toNat = (List.range 9).map (fun k => code.toNat / 2 ^ (72 - 8 * k) % 256) ∧
      r.f0.toNat = code.toNat / 2 ^ 76 % 16 ∧ r.f1.toNat = code.toNat / 2 ^ 72 % 16 ∧
      r.f2.toNat = code.toNat / 2 ^ 40 % 2 ^ 32 ∧ r.f3.toNat = code.toNat / 2 ^ 8 % 2 ^ 32 ∧
      r.f4.toNat = code.toNat % 256 ∧
      (c.chkMode = .additive →
        (r.valid = true ↔ (bs.map BitVec.toNat).sum % 256 = code.toNat % 256)) ∧
      (c.chkMode = .crc8 →
        (r.valid = true ↔ (d.crc8 bs c.crcPoly c.crcInit).toNat = code.toNat % 256)) ∧
      r.err = (if r.valid then 0 else 4)

/-- Flipping any single bit of a valid 40-bit packet, or of a valid 80-bit packet under the additive check, makes it
fail (44_validator.md R185). -/
def Obligations.SingleBitFlipFailsTheAdditiveCheck : Prop :=
  ∀ (d : Deployment) (c : Cfg) (code : BitVec 80) (i : Nat),
    c.variant = .v40 ∧ i < 40 ∨ c.variant = .v80 ∧ c.chkMode = .additive ∧ i < 80 →
    (validateResult d c code (BitVec.ofNat 8 c.variant.bits)).valid = true →
    (validateResult d c (code ^^^ BitVec.twoPow 80 i) (BitVec.ofNat 8 c.variant.bits)).valid = false ∧
    (validateResult d c (code ^^^ BitVec.twoPow 80 i) (BitVec.ofNat 8 c.variant.bits)).err = 4

/-- VALIDATE as a command: the result for `ARG2[15:0] || ARG1 || ARG0` and `ARG3[7:0]` in `VAL_PV` and `VAL_F*`;
`CHKFAIL` and its counter only on a failed check; refused in Halted (44_validator.md R170; 60_exceptions.md R224). -/
def Obligations.ValidateCommandReports : Prop :=
  ∀ s : State,
    (s.session ≠ .halted →
      ∃ (t : State) (code : BitVec 80) (n : BitVec 8), exec .validate s = .next t ∧
        code.toNat = s.args.a0.toNat + 2 ^ 32 * s.args.a1.toNat + 2 ^ 64 * (s.args.a2.toNat % 2 ^ 16) ∧
        n.toNat = s.args.a3.toNat % 256 ∧ t.valPv = validateResult s.deploy s.cfg code n ∧
        t.err.chkFail = (s.err.chkFail || t.valPv.err == 4) ∧
        t.cnt.chkFail.toNat =
          (if t.valPv.err = 4 then min (s.cnt.chkFail.toNat + 1) (2 ^ 32 - 1) else s.cnt.chkFail.toNat) ∧
        t =
          { s with
            valPv := t.valPv, err := { s.err with chkFail := t.err.chkFail },
            cnt := { s.cnt with chkFail := t.cnt.chkFail } }) ∧
    (s.session = .halted → ∃ t, exec .validate s = .next t ∧ RefusedOnly s t)

/-- FRAME in Config and Running: each row builds the packet of its operands, bytes beyond it 0, and sets `TX_BITS` to
its length; only `PKT` and `TX_BITS` change. In Halted each is refused (44_validator.md R182, R183, R184). -/
def Obligations.FrameBuildsThePacket : Prop :=
  ∀ s : State,
    (s.session ≠ .halted →
      (∃ t, exec .frameV40 s = .next t ∧
        t.pkt.b0.toNat = s.args.a0.toNat % 256 ∧
        t.pkt.b1.toNat = s.args.a1.toNat % 16 * 16 + s.args.a2.toNat / 256 % 16 ∧
        t.pkt.b2.toNat = s.args.a2.toNat % 256 ∧ t.pkt.b3.toNat = s.args.a3.toNat % 256 ∧
        t.pkt.b4.toNat = (t.pkt.b0.toNat + t.pkt.b1.toNat + t.pkt.b2.toNat + t.pkt.b3.toNat) % 256 ∧
        t.pkt.bytes.drop 5 = [0, 0, 0, 0, 0] ∧ t.txBits = 40 ∧ t = { s with pkt := t.pkt, txBits := t.txBits }) ∧
      (∃ t, exec .frameV48 s = .next t ∧
        t.pkt.b0.toNat = s.args.a0.toNat % 256 ∧ t.pkt.b1.toNat = s.args.a1.toNat / 16 % 256 ∧
        t.pkt.b2.toNat = s.args.a1.toNat % 16 * 16 + s.args.a2.toNat / 256 % 16 ∧
        t.pkt.b3.toNat = s.args.a2.toNat % 256 ∧ t.pkt.b4 = s.cfg.marker4 ∧ t.pkt.b5 = s.cfg.marker5 ∧
        t.pkt.bytes.drop 6 = [0, 0, 0, 0] ∧ t.txBits = 48 ∧ t = { s with pkt := t.pkt, txBits := t.txBits }) ∧
      (∃ t, exec .frameV80 s = .next t ∧
        t.pkt.b0.toNat = s.args.a0.toNat % 16 * 16 + s.args.a1.toNat % 16 ∧
        t.pkt.memRead 1 4 = s.args.a2.toNat ∧ t.pkt.memRead 5 4 = s.args.a3.toNat ∧
        (s.cfg.chkMode = .additive → t.pkt.b9.toNat = ((t.pkt.bytes.take 9).map BitVec.toNat).sum % 256) ∧
        (s.cfg.chkMode = .crc8 →
          t.pkt.b9 = s.deploy.crc8 (t.pkt.bytes.take 9) s.cfg.crcPoly s.cfg.crcInit) ∧
        t.txBits = 80 ∧ t = { s with pkt := t.pkt, txBits := t.txBits })) ∧
    (s.session = .halted →
      (∃ t, exec .frameV40 s = .next t ∧ RefusedOnly s t) ∧ (∃ t, exec .frameV48 s = .next t ∧ RefusedOnly s t) ∧
      ∃ t, exec .frameV80 s = .next t ∧ RefusedOnly s t)

/-- FRAME and VALIDATE are inverse: the packet FRAME builds for the configured variant, taken as a code of that
variant's length, validates, whichever `crc8` the deployment has, and its fields are the operands
(44_validator.md R182 to R184; 95_test_vectors.md V-FRM-5). -/
def Obligations.FramedPacketValidates : Prop :=
  ∀ s : State,
    ∃ (code : BitVec 80) (r : PvResult),
      code.toNat = (framePacket s.cfg.variant s).memRead 0 (s.cfg.variant.bits / 8) ∧
      validateResult s.deploy s.cfg code (BitVec.ofNat 8 s.cfg.variant.bits) = r ∧ r.valid = true ∧ r.err = 0 ∧
      (s.cfg.variant = .v40 →
        r.f0.toNat = s.args.a0.toNat % 256 ∧ r.f1.toNat = s.args.a1.toNat % 16 ∧
        r.f2.toNat = s.args.a2.toNat % 4096 ∧ r.f3.toNat = s.args.a3.toNat % 256) ∧
      (s.cfg.variant = .v48 →
        r.f0.toNat = s.args.a0.toNat % 256 ∧ r.f1.toNat = s.args.a1.toNat % 4096 ∧
        r.f2.toNat = s.args.a2.toNat % 4096) ∧
      (s.cfg.variant = .v80 →
        r.f0.toNat = s.args.a0.toNat % 16 ∧ r.f1.toNat = s.args.a1.toNat % 16 ∧ r.f2 = s.args.a2 ∧ r.f3 = s.args.a3)

/-! ## Encoder -/

/-- The scaled duration is `n * SCALE / 65536` rounded to the nearest integer, halves up, and `n` itself at scale 1.0
(41_encoder.md R101). -/
def Obligations.ScaledRoundsToNearest : Prop :=
  ∀ scale n : U32,
    2 * 65536 * scaled scale n ≤ 2 * n.toNat * scale.toNat + 65536 ∧
    2 * n.toNat * scale.toNat + 65536 < 2 * 65536 * (scaled scale n + 1) ∧
    scaled 0x00010000#32 n = n.toNat

/-- ENCODE accepted: Running, Idle, operands within the limits, every scaled duration from 1 to 2^32 - 1. The LUT holds
the scaled durations, the operands are latched, the sequencer is at its start, nothing is appended yet
(41_encoder.md R100). -/
def Obligations.EncodeLatchesAndStarts : Prop :=
  ∀ s : State, s.session = .running → s.enc.encState = .idle →
    s.deploy.bitsMin ≤ s.txBits.toNat → s.txBits.toNat ≤ s.deploy.bitsMax →
    s.deploy.repeatsMin ≤ s.txRepeats.toNat → s.txRepeats.toNat ≤ s.deploy.repeatsMax →
    (∀ k, 1 ≤ scaled s.scale (s.cfg.nominal.get k) ∧ scaled s.scale (s.cfg.nominal.get k) < 2 ^ 32) →
    ∃ t, exec .encode s = .next t ∧
      (∀ k, (t.lut.get k).toNat = scaled s.scale (s.cfg.nominal.get k)) ∧
      t.enc =
        { encState := .busy, repIdx := 0, step := .p1, bitIdx := 0, sPkt := s.pkt.word, sBits := s.txBits,
          sReps := s.txRepeats } ∧
      t = { s with lut := t.lut, enc := t.enc }

/-- ENCODE refused: any one failed check sets `CFGERR` and changes nothing else (41_encoder.md R100,
60_exceptions.md R225). -/
def Obligations.EncodeRefusesBadOperands : Prop :=
  ∀ s : State,
    s.session ≠ .running ∨ s.enc.encState = .busy ∨ s.txBits.toNat < s.deploy.bitsMin ∨
      s.deploy.bitsMax < s.txBits.toNat ∨ s.txRepeats.toNat < s.deploy.repeatsMin ∨
      s.deploy.repeatsMax < s.txRepeats.toNat ∨
      (∃ k, scaled s.scale (s.cfg.nominal.get k) = 0 ∨ 2 ^ 32 ≤ scaled s.scale (s.cfg.nominal.get k)) →
    ∃ t, exec .encode s = .next t ∧ RefusedOnly s t

/-- The data bit at index `i` is bit `79 - i` of the latched packet, which is `PKT[i / 8][7 - (i mod 8)]`: byte 0 first,
most significant bit first; the latched packet is the big-endian number of the ten bytes (41_encoder.md R103;
20_memory.md R41). -/
def Obligations.DataBitsLeaveMostSignificantFirst : Prop :=
  (∀ (w : BitVec 80) (i : Fin 80), packetBit w i = w.getLsbD (79 - i)) ∧
  ∀ p : Packet, p.word.toNat = p.memRead 0 10 ∧
    ∀ i : Fin 80, packetBit p.word i = (p.byte ⟨i / 8, by omega⟩).getLsbD (7 - i % 8)

/-- SEQ_STEP while Busy appends exactly one pair, of level 1 and duration `T[Pulse]` or of level 0 and the gap of the
position, a segment word of bit 32 and bits [31:0], and moves to the next position of R105; it writes nothing but its
position and `TXS`, and signals TX_DONE with the last pair of the last frame only; a step of an Idle sequencer changes
nothing (41_encoder.md R105, R106, R107; 30_encoding.md R64; the Idle clause is log 4's). -/
def Obligations.SeqStepEmitsOnePair : Prop :=
  ∀ s : State,
    (s.enc.encState = .idle → exec .seqStep s = .next s) ∧
    (s.enc.encState = .busy →
      ∃ (t : State) (g : Segment), exec .seqStep s = .next t ∧ t.txs = s.txs ++ [g] ∧
        g.word.toNat = 2 ^ 32 * g.level.toNat + g.dur.toNat ∧ g.level = !s.enc.step.gapNext ∧
        g.dur =
          (match s.enc.step with
            | .p1 | .p2 | .p3 | .bp | .tp => s.lut.pulse
            | .sg1 | .sg2 => s.lut.syncGap
            | .sy => s.lut.sync
            | .bg => if packetBit s.enc.sPkt s.enc.bitIdx.toNat then s.lut.long else s.lut.short
            | .tg => s.lut.gap) ∧
        (s.enc.step = .bg → s.enc.bitIdx.toNat + 1 < s.enc.sBits.toNat →
          t.enc = { s.enc with step := .bp, bitIdx := s.enc.bitIdx + 1 }) ∧
        (s.enc.step = .bg → s.enc.sBits.toNat ≤ s.enc.bitIdx.toNat + 1 → t.enc = { s.enc with step := .tp }) ∧
        (s.enc.step = .tg → s.enc.repIdx.toNat + 1 < s.enc.sReps.toNat →
          t.enc = { s.enc with step := .p1, bitIdx := 0, repIdx := s.enc.repIdx + 1 }) ∧
        (s.enc.step = .tg → s.enc.sReps.toNat ≤ s.enc.repIdx.toNat + 1 →
          t.enc = { s.enc with encState := .idle, step := .p1, bitIdx := 0, repIdx := 0 }) ∧
        (s.enc.step ≠ .bg → s.enc.step ≠ .tg →
          t.enc = { s.enc with step := t.enc.step } ∧ t.enc.step.code = s.enc.step.code + 1) ∧
        t.io =
          (if s.enc.step = .tg ∧ s.enc.sReps.toNat ≤ s.enc.repIdx.toNat + 1 then { s.io with txDone := true }
            else s.io) ∧
        t = { s with txs := t.txs, enc := t.enc, io := t.io })

/-- The sequencer emits the plan: a Busy block at the start of a transmission, with no input to come, appends exactly
`plan` to `TXS` in `s_reps * (2 * s_bits + 8)` steps, one pair a step, and is then Idle with TX_DONE; nothing else
changes (41_encoder.md R104 to R107; that a step with no input is the sequencer's is log 3's). -/
def Obligations.SequencerEmitsThePlan : Prop :=
  ∀ s : State, s.pending = [] → s.enc.encState = .busy → s.enc.step = .p1 → s.enc.repIdx = 0 → s.enc.bitIdx = 0 →
    1 ≤ s.enc.sBits.toNat → s.enc.sBits.toNat ≤ 80 → 1 ≤ s.enc.sReps.toNat →
    ∃ t, Host.Core.run core (s.enc.sReps.toNat * (2 * s.enc.sBits.toNat + 8)) s = .next t ∧
      t.txs = s.txs ++ plan s.lut s.enc.sPkt s.enc.sBits.toNat s.enc.sReps.toNat ∧ t.enc.encState = .idle ∧
      t.io.txDone = true ∧ t = { s with txs := t.txs, enc := t.enc, io := t.io }

/-- The plan has `s_reps * (2 * s_bits + 8)` pairs; pair `j` is a pulse of `T[Pulse]` when `j` is even and a gap when
`j` is odd, across the join of two frames as well (41_encoder.md R104); together they last `s_reps` times the frame
duration of 70_reset_and_hazards.md R261. -/
def Obligations.PlanAlternatesAndLastsAsStated : Prop :=
  ∀ (t : PerKind U32) (pkt : BitVec 80) (n reps : Nat),
    (plan t pkt n reps).length = reps * (2 * n + 8) ∧
    (∀ (j : Nat) (g : Segment), (plan t pkt n reps)[j]? = some g →
      g.level = decide (j % 2 = 0) ∧ (g.level = true → g.dur = t.pulse)) ∧
    ((plan t pkt n reps).map fun g => g.dur.toNat).sum =
      reps *
        (3 * t.pulse.toNat + 2 * t.syncGap.toNat + t.sync.toNat + n * t.pulse.toNat +
          (n - (packetBits pkt n).count true) * t.short.toNat + (packetBits pkt n).count true * t.long.toNat +
          t.pulse.toNat + t.gap.toNat)

/-- Round trip: the ideal edge stream of a plan, fed to a freshly started receiver of a well-formed configuration whose
bands hold the emitted gaps, is decoded to one record for each frame, with the packet's first N bits as code, and the
emitted durations as averages; no violation, no length mismatch (43_decoder.md R158). Beside R158's premises the
emitted pulse too must not exceed `WD_US`, else the watchdog fires inside it (log 17). That each edge comes at its time,
that the watchdog goes by those times, and that it goes when nothing is left to come, are logs 1 to 3. -/
def Obligations.IdealStreamRoundTrip : Prop :=
  ∀ (s : State) (tau n reps : Nat), WF s → s.session = .running → s.enc.encState = .idle →
    n = s.cfg.expectedBits.toNat → 1 ≤ reps → s.lut.pulse.toNat ≤ s.cfg.wdUs.toNat →
    (∀ k : Kind, k ≠ .pulse →
      (s.cfg.lo k).toNat ≤ (s.lut.get k).toNat ∧ (s.lut.get k).toNat ≤ (s.cfg.hi k).toNat ∧
      (s.lut.get k).toNat ≤ s.cfg.wdUs.toNat) →
    s.pending =
      { delay := 0, word := encode .rxStart } :: idealEdges tau (plan s.lut s.enc.sPkt n reps) →
    s.wdReady = false →
    ∃ (t : State) (rec : OutRecord), Host.Core.run core (reps * (2 * n + 8) + 2) s = .next t ∧
      t.out = s.out ++ List.replicate reps rec ∧
      rec.code.toNat = bitsToNat (packetBits s.enc.sPkt n) ∧ rec.bits.toNat = n ∧ rec.avgPulse = s.lut.pulse ∧
      rec.avgShort = (if false ∈ packetBits s.enc.sPkt n then s.lut.short else 0) ∧
      rec.avgLong = (if true ∈ packetBits s.enc.sPkt n then s.lut.long else 0) ∧
      t.cnt.viol = s.cnt.viol ∧ t.cnt.lenMiss = s.cnt.lenMiss

/-! ## Calibration -/

/-- CAL_LOAD in Config: with a divisor `2 * N * nominal_us` not 0 and a quotient from 1 to 2^32 - 1 the quotient
becomes `SCALE` and nothing else changes; otherwise CalibrationFailure. Outside Config it is refused, whatever the
operands (40_calibrator.md R90; 60_exceptions.md R221, R228). -/
def Obligations.CalLoadComputesTheScale : Prop :=
  ∀ (s : State) (den : Nat), den = 2 * s.args.a1.toNat * s.args.a2.toNat →
    (s.session = .config → den ≠ 0 → s.args.a0.toNat * 65536 / den ≠ 0 → s.args.a0.toNat * 65536 / den < 2 ^ 32 →
      ∃ t, exec .calLoad s = .next t ∧ t.scale.toNat = s.args.a0.toNat * 65536 / den ∧ t = { s with scale := t.scale }) ∧
    (s.session = .config →
      den = 0 ∨ s.args.a0.toNat * 65536 / den = 0 ∨ 2 ^ 32 ≤ s.args.a0.toNat * 65536 / den →
      ∃ t, exec .calLoad s = .next t ∧ HaltedByCalibration s t) ∧
    (s.session ≠ .config → ∃ t, exec .calLoad s = .next t ∧ RefusedOnly s t)

/-- CAL_FAIL in Config and Running raises CalibrationFailure: Halted, both channels stopped, everything delivered kept;
in Halted it is refused (40_calibrator.md R92; 60_exceptions.md R221). -/
def Obligations.CalFailHaltsTheSession : Prop :=
  ∀ s : State,
    (s.session ≠ .halted → ∃ t, exec .calFail s = .next t ∧ HaltedByCalibration s t) ∧
    (s.session = .halted → ∃ t, exec .calFail s = .next t ∧ RefusedOnly s t)

/-! ## HOST port -/

/-- LOCK from Config with every `NOMINAL[k]` and `EXPECTED_BITS` not 0 moves to Running and changes nothing else; else
it is refused (45_host_control.md R198). -/
def Obligations.LockStartsTheSession : Prop :=
  ∀ s : State,
    (s.session = .config → (∀ k, s.cfg.nominal.get k ≠ 0) → s.cfg.expectedBits ≠ 0 →
      exec .lock s = .next { s with session := .running }) ∧
    (s.session ≠ .config ∨ (∃ k, s.cfg.nominal.get k = 0) ∨ s.cfg.expectedBits = 0 →
      ∃ t, exec .lock s = .next t ∧ RefusedOnly s t)

/-- RX_START in Running enables the receiver afresh and drops the attempt without a count; outside Running it is
refused (45_host_control.md R199). -/
def Obligations.RxStartRestartsTheReceiver : Prop :=
  ∀ s : State,
    (s.session = .running →
      exec .rxStart s =
        .next
          { s with
            rx := { rxEn := true, prevTs := s.rx.prevTs, prevValid := false, wdArmed := false },
            dec := .resetState }) ∧
    (s.session ≠ .running → ∃ t, exec .rxStart s = .next t ∧ RefusedOnly s t)

/-- RX_CANCEL and TX_CANCEL in Config and Running: the receiver disabled and its attempt dropped, respectively the
sequencer stopped at output level 0 with `T[]`, the shadow registers and `TXS` kept and no TX_DONE; nothing else. In
Halted both are refused (45_host_control.md R200, R201). -/
def Obligations.CancelsStopOneChannel : Prop :=
  ∀ s : State,
    (s.session ≠ .halted →
      exec .rxCancel s =
        .next
          { s with
            rx := { rxEn := false, prevTs := s.rx.prevTs, prevValid := false, wdArmed := false },
            dec := .resetState } ∧
      exec .txCancel s =
        .next
          { s with
            enc := { s.enc with encState := .idle, repIdx := 0, step := .p1, bitIdx := 0 }, txLevel := false }) ∧
    (s.session = .halted →
      (∃ t, exec .rxCancel s = .next t ∧ RefusedOnly s t) ∧ ∃ t, exec .txCancel s = .next t ∧ RefusedOnly s t)

/-- Outside Halted both cancels are idempotent, they commute, they touch disjoint state and so neither `ERR` nor a
counter, `OUT` or `TXS`; after RX_CANCEL no edge is taken and no watchdog is ready, after TX_CANCEL no sequencer step
does anything (45_host_control.md R202; the Idle step is log 4's). -/
def Obligations.CancelsAreIdempotentAndCommute : Prop :=
  ∀ s : State, s.session ≠ .halted →
    execAll [.rxCancel, .rxCancel] s = execAll [.rxCancel] s ∧
    execAll [.txCancel, .txCancel] s = execAll [.txCancel] s ∧
    execAll [.rxCancel, .txCancel] s = execAll [.txCancel, .rxCancel] s ∧
    (∀ t, exec .rxCancel s = .next t →
      t = { s with rx := t.rx, dec := t.dec } ∧ t.wdReady = false ∧ ∀ l ts, exec (.edge l ts) t = .next t) ∧
    ∀ t, exec .txCancel s = .next t →
      t = { s with enc := t.enc, txLevel := t.txLevel } ∧ t.enc.encState = .idle ∧ exec .seqStep t = .next t

/-- A legal CFG_WRITE that the session phase admits stores the register: it then reads the implemented bits of the
data, and every other register number reads as before, but for the bounds of a written profile entry
(45_host_control.md R195, R197; 10_state.md R16, R20). -/
def Obligations.LegalWriteReadsBack : Prop :=
  ∀ (n : Byte) (data : U32) (r : Reg) (s : State), regOf n = some r →
    (r.access = .rwc ∧ s.session = .config ∨ r.access = .rw ∧ s.session ≠ .halted) → r.legal data = true →
    ∃ t, exec (.cfgWrite n data) s = .next t ∧
      readNumber n t =
        data &&&
          (match r with
            | .pvcfg => 0x00FFFF07#32
            | .markers => 0x0000FFFF#32
            | .pktW2 => 0xFFFF0000#32
            | _ => 0xFFFFFFFF#32) ∧
      t.err = s.err ∧ t.out = s.out ∧ t.txs = s.txs ∧ t.dec = s.dec ∧ t.rx = s.rx ∧ t.enc = s.enc ∧
      ∀ m : Byte, m ≠ n →
        (∀ k, r = .nominal k ∨ r = .tol k → regOf m ≠ some (.lo k) ∧ regOf m ≠ some (.hi k)) →
        readNumber m t = readNumber m s

/-- Every other CFG_WRITE but to `CMD` and `ERR` is refused: an unlisted or read-only number, any write in Halted, a
frozen register outside Config, an illegal value (45_host_control.md R195, R205; 10_state.md R16). -/
def Obligations.IllegalWriteIsRefused : Prop :=
  ∀ (n : Byte) (data : U32) (s : State), n ≠ 0x00#8 → n ≠ 0x02#8 →
    (s.session = .halted ∨ regOf n = none ∨
      ∃ r, regOf n = some r ∧
        (r.access = .ro ∨ r.access = .rwc ∧ s.session ≠ .config ∨ r.legal data = false)) →
    ∃ t, exec (.cfgWrite n data) s = .next t ∧ RefusedOnly s t

/-- A write to `ERR`, in every session phase, clears `CFGERR` where data bit 1 is 1 and `CHKFAIL` where bit 2 is 1,
leaves `CALFAIL` and changes nothing else (45_host_control.md R203, 10_state.md R19). -/
def Obligations.ErrIsWriteOneToClear : Prop :=
  ∀ (data : U32) (s : State),
    ∃ t, exec (.cfgWrite 0x02#8 data) s = .next t ∧ t.err.calFail = s.err.calFail ∧
      (t.err.cfgErr = true ↔ s.err.cfgErr = true ∧ data.toNat / 2 % 2 = 0) ∧
      (t.err.chkFail = true ↔ s.err.chkFail = true ∧ data.toNat / 4 % 2 = 0) ∧ t = { s with err := t.err }

/-- A write to `CMD` runs the operation its code decodes to, in every session phase (45_host_control.md R204,
30_encoding.md R66; log 15); a reserved command code raises ConfigurationError and has no other effect
(10_state.md R17, 30_encoding.md R76). -/
def Obligations.WriteToCmdRunsTheCommand : Prop :=
  ∀ s : State,
    (∀ data : U32,
      exec (.cfgWrite 0x00#8 data) s = exec (decodeCommand s.cfg.variant (data.extractLsb' 0 8)) s) ∧
    ∀ c : Byte, ∃ t, exec (.cmdReserved c) s = .next t ∧ RefusedOnly s t

/-- CFG_READ answers the register's content in every session phase and has no side effect; an unlisted number and `CMD`
read 0; `STATUS` and `ERR` read the bits of their rules, every other listed register its own (`RegisterContents`): the
80-bit code of the last record low word first, the packet buffer in wire order, the views from what they show
(45_host_control.md R196; 10_state.md R16, R18 to R27; 20_memory.md R44). -/
def Obligations.ReadsHaveNoSideEffect : Prop :=
  ∀ (n : Byte) (s : State),
    RegisterContents s ∧
    ∃ (t : State) (v : U32), exec (.cfgRead n) s = .next t ∧ t = { s with io := { s.io with rdata := some v } } ∧
      v = readNumber n s ∧
      (regOf n = none → v = 0) ∧ (n = 0x00#8 → v = 0) ∧
      (n = 0x01#8 →
        v.toNat =
          (match s.session with
            | .config => 0
            | .running => 1
            | .halted => 2) +
          4 * s.rx.rxEn.toNat + 8 * (s.enc.encState == .busy).toNat + 16 * (s.dec.state == .dataCollect).toNat +
          32 * (s.dec.phase == .expectInterval).toNat + 64 * s.rx.prevValid.toNat + 128 * s.rx.wdArmed.toNat) ∧
      (n = 0x02#8 → v.toNat = s.err.calFail.toNat + 2 * s.err.cfgErr.toNat + 4 * s.err.chkFail.toNat)

/-! ## Reset -/

/-- RESET, from any state: every register number reads 0 but `SCALE`, which reads 1.0, both streams are empty, the block
is in Config with both channels at their reset positions (70_reset_and_hazards.md R250, R251; 10_state.md R33). The
inputs still to come and the deployment stay (log 8). -/
def Obligations.ResetRestoresEverything : Prop :=
  ∀ s : State,
    ∃ t, exec .reset s = .next t ∧
      (∀ n : Byte, readNumber n t = if n = 0x05#8 then 0x00010000#32 else 0#32) ∧
      t.out = [] ∧ t.txs = [] ∧ t.session = .config ∧ t.dec = .resetState ∧ t.rx.prevTs = 0 ∧ t.enc.sPkt = 0 ∧
      t.enc.sBits = 0 ∧ t.enc.sReps = 0 ∧ t.txLevel = false ∧ t.outReg = .zero ∧ t.deploy = s.deploy ∧
      t.pending = s.pending ∧ t = { State.reset with deploy := s.deploy, pending := s.pending }
end

