-- ==== Sys2Proof/Laws/Exec.lean ====
section
/-! SUPPORT. The equation of each arm of `exec`: which operation over the state it is. -/

namespace Sys2Proof.Machine

@[simp] theorem exec_edge (l : Bool) (ts : U32) (s : State) : exec (.edge l ts) s = .next (edgeOp l ts s) := rfl
@[simp] theorem exec_evPulse (d : U32) (s : State) : exec (.evPulse d) s = .next (evPulse d s) := rfl
@[simp] theorem exec_evIvSyncGap (d : U32) (s : State) :
    exec (.evIvSyncGap d) s = .next (evInterval (some .syncGap) d s) := rfl
@[simp] theorem exec_evIvPulse (d : U32) (s : State) :
    exec (.evIvPulse d) s = .next (evInterval (some .pulse) d s) := rfl
@[simp] theorem exec_evIvShort (d : U32) (s : State) :
    exec (.evIvShort d) s = .next (evInterval (some .short) d s) := rfl
@[simp] theorem exec_evIvLong (d : U32) (s : State) :
    exec (.evIvLong d) s = .next (evInterval (some .long) d s) := rfl
@[simp] theorem exec_evIvSync (d : U32) (s : State) :
    exec (.evIvSync d) s = .next (evInterval (some .sync) d s) := rfl
@[simp] theorem exec_evIvGap (d : U32) (s : State) :
    exec (.evIvGap d) s = .next (evInterval (some .gap) d s) := rfl
@[simp] theorem exec_evIvUnknown (d : U32) (s : State) :
    exec (.evIvUnknown d) s = .next (evInterval none d s) := rfl
@[simp] theorem exec_evWd (s : State) : exec .evWd s = .next (evWd s) := rfl
@[simp] theorem exec_evReserved6 (d : U32) (s : State) : exec (.evReserved6 d) s = .next (evInterval none d s) := rfl
@[simp] theorem exec_evReservedA (d : U32) (s : State) : exec (.evReservedA d) s = .next (evInterval none d s) := rfl
@[simp] theorem exec_evReservedB (d : U32) (s : State) : exec (.evReservedB d) s = .next (evInterval none d s) := rfl
@[simp] theorem exec_evReservedC (d : U32) (s : State) : exec (.evReservedC d) s = .next (evInterval none d s) := rfl
@[simp] theorem exec_evReservedD (d : U32) (s : State) : exec (.evReservedD d) s = .next (evInterval none d s) := rfl
@[simp] theorem exec_evReservedE (d : U32) (s : State) : exec (.evReservedE d) s = .next (evInterval none d s) := rfl
@[simp] theorem exec_evReservedF (d : U32) (s : State) : exec (.evReservedF d) s = .next (evInterval none d s) := rfl
@[simp] theorem exec_cfgWrite (r : Byte) (d : U32) (s : State) :
    exec (.cfgWrite r d) s = .next (cfgWriteOp r d s) := rfl
@[simp] theorem exec_cfgRead (r : Byte) (s : State) : exec (.cfgRead r) s = .next (cfgReadOp r s) := rfl
@[simp] theorem exec_lock (s : State) : exec .lock s = .next (lockOp s) := rfl
@[simp] theorem exec_rxStart (s : State) : exec .rxStart s = .next (rxStartOp s) := rfl
@[simp] theorem exec_rxCancel (s : State) : exec .rxCancel s = .next (rxCancelOp s) := rfl
@[simp] theorem exec_encode (s : State) : exec .encode s = .next (encodeOp s) := rfl
@[simp] theorem exec_txCancel (s : State) : exec .txCancel s = .next (txCancelOp s) := rfl
@[simp] theorem exec_calLoad (s : State) : exec .calLoad s = .next (calLoadOp s) := rfl
@[simp] theorem exec_calFail (s : State) : exec .calFail s = .next (calFailOp s) := rfl
@[simp] theorem exec_validate (s : State) : exec .validate s = .next (validateOp s) := rfl
@[simp] theorem exec_frameV40 (s : State) : exec .frameV40 s = .next (frameOp .v40 s) := rfl
@[simp] theorem exec_frameV48 (s : State) : exec .frameV48 s = .next (frameOp .v48 s) := rfl
@[simp] theorem exec_frameV80 (s : State) : exec .frameV80 s = .next (frameOp .v80 s) := rfl
@[simp] theorem exec_classify (s : State) : exec .classify s = .next (classifyOp s) := rfl
@[simp] theorem exec_cmdReserved (c : Byte) (s : State) :
    exec (.cmdReserved c) s = .next (raise .configurationError s) := rfl
@[simp] theorem exec_seqStep (s : State) : exec .seqStep s = .next (seqOp s) := rfl
@[simp] theorem exec_reset (s : State) : exec .reset s = .next (resetOp s) := rfl

end Sys2Proof.Machine
end

