-- ==== Sys2Proof/Laws/State.lean ====
section
/-! SUPPORT. What each shared update of the state does to each field, so that no later proof unfolds one. -/

namespace Sys2Proof.Machine

/-! ### `decReset` -/

@[simp] theorem decReset_session (s : State) : (decReset s).session = s.session := rfl
@[simp] theorem decReset_cfg (s : State) : (decReset s).cfg = s.cfg := rfl
@[simp] theorem decReset_scale (s : State) : (decReset s).scale = s.scale := rfl
@[simp] theorem decReset_lut (s : State) : (decReset s).lut = s.lut := rfl
@[simp] theorem decReset_dec (s : State) : (decReset s).dec = .resetState := rfl
@[simp] theorem decReset_rx (s : State) : (decReset s).rx = s.rx := rfl
@[simp] theorem decReset_enc (s : State) : (decReset s).enc = s.enc := rfl
@[simp] theorem decReset_txLevel (s : State) : (decReset s).txLevel = s.txLevel := rfl
@[simp] theorem decReset_pkt (s : State) : (decReset s).pkt = s.pkt := rfl
@[simp] theorem decReset_txBits (s : State) : (decReset s).txBits = s.txBits := rfl
@[simp] theorem decReset_txRepeats (s : State) : (decReset s).txRepeats = s.txRepeats := rfl
@[simp] theorem decReset_args (s : State) : (decReset s).args = s.args := rfl
@[simp] theorem decReset_res0 (s : State) : (decReset s).res0 = s.res0 := rfl
@[simp] theorem decReset_err (s : State) : (decReset s).err = s.err := rfl
@[simp] theorem decReset_cnt (s : State) : (decReset s).cnt = s.cnt := rfl
@[simp] theorem decReset_outReg (s : State) : (decReset s).outReg = s.outReg := rfl
@[simp] theorem decReset_valPv (s : State) : (decReset s).valPv = s.valPv := rfl
@[simp] theorem decReset_out (s : State) : (decReset s).out = s.out := rfl
@[simp] theorem decReset_txs (s : State) : (decReset s).txs = s.txs := rfl
@[simp] theorem decReset_io (s : State) : (decReset s).io = s.io := rfl
@[simp] theorem decReset_idle (s : State) : (decReset s).idle = s.idle := rfl
@[simp] theorem decReset_deploy (s : State) : (decReset s).deploy = s.deploy := rfl
@[simp] theorem decReset_pending (s : State) : (decReset s).pending = s.pending := rfl

/-! ### `stopRx` -/

@[simp] theorem stopRx_session (s : State) : (stopRx s).session = s.session := rfl
@[simp] theorem stopRx_cfg (s : State) : (stopRx s).cfg = s.cfg := rfl
@[simp] theorem stopRx_scale (s : State) : (stopRx s).scale = s.scale := rfl
@[simp] theorem stopRx_lut (s : State) : (stopRx s).lut = s.lut := rfl
@[simp] theorem stopRx_dec (s : State) : (stopRx s).dec = .resetState := rfl
@[simp] theorem stopRx_rx (s : State) :
    (stopRx s).rx = { s.rx with rxEn := false, prevValid := false, wdArmed := false } := rfl
@[simp] theorem stopRx_enc (s : State) : (stopRx s).enc = s.enc := rfl
@[simp] theorem stopRx_txLevel (s : State) : (stopRx s).txLevel = s.txLevel := rfl
@[simp] theorem stopRx_pkt (s : State) : (stopRx s).pkt = s.pkt := rfl
@[simp] theorem stopRx_txBits (s : State) : (stopRx s).txBits = s.txBits := rfl
@[simp] theorem stopRx_txRepeats (s : State) : (stopRx s).txRepeats = s.txRepeats := rfl
@[simp] theorem stopRx_args (s : State) : (stopRx s).args = s.args := rfl
@[simp] theorem stopRx_res0 (s : State) : (stopRx s).res0 = s.res0 := rfl
@[simp] theorem stopRx_err (s : State) : (stopRx s).err = s.err := rfl
@[simp] theorem stopRx_cnt (s : State) : (stopRx s).cnt = s.cnt := rfl
@[simp] theorem stopRx_outReg (s : State) : (stopRx s).outReg = s.outReg := rfl
@[simp] theorem stopRx_valPv (s : State) : (stopRx s).valPv = s.valPv := rfl
@[simp] theorem stopRx_out (s : State) : (stopRx s).out = s.out := rfl
@[simp] theorem stopRx_txs (s : State) : (stopRx s).txs = s.txs := rfl
@[simp] theorem stopRx_io (s : State) : (stopRx s).io = s.io := rfl
@[simp] theorem stopRx_idle (s : State) : (stopRx s).idle = s.idle := rfl
@[simp] theorem stopRx_deploy (s : State) : (stopRx s).deploy = s.deploy := rfl
@[simp] theorem stopRx_pending (s : State) : (stopRx s).pending = s.pending := rfl

/-! ### `stopTx` -/

@[simp] theorem stopTx_session (s : State) : (stopTx s).session = s.session := rfl
@[simp] theorem stopTx_cfg (s : State) : (stopTx s).cfg = s.cfg := rfl
@[simp] theorem stopTx_scale (s : State) : (stopTx s).scale = s.scale := rfl
@[simp] theorem stopTx_lut (s : State) : (stopTx s).lut = s.lut := rfl
@[simp] theorem stopTx_dec (s : State) : (stopTx s).dec = s.dec := rfl
@[simp] theorem stopTx_rx (s : State) : (stopTx s).rx = s.rx := rfl
@[simp] theorem stopTx_enc (s : State) :
    (stopTx s).enc = { s.enc with encState := .idle, repIdx := 0, bitIdx := 0, step := .p1 } := rfl
@[simp] theorem stopTx_txLevel (s : State) : (stopTx s).txLevel = false := rfl
@[simp] theorem stopTx_pkt (s : State) : (stopTx s).pkt = s.pkt := rfl
@[simp] theorem stopTx_txBits (s : State) : (stopTx s).txBits = s.txBits := rfl
@[simp] theorem stopTx_txRepeats (s : State) : (stopTx s).txRepeats = s.txRepeats := rfl
@[simp] theorem stopTx_args (s : State) : (stopTx s).args = s.args := rfl
@[simp] theorem stopTx_res0 (s : State) : (stopTx s).res0 = s.res0 := rfl
@[simp] theorem stopTx_err (s : State) : (stopTx s).err = s.err := rfl
@[simp] theorem stopTx_cnt (s : State) : (stopTx s).cnt = s.cnt := rfl
@[simp] theorem stopTx_outReg (s : State) : (stopTx s).outReg = s.outReg := rfl
@[simp] theorem stopTx_valPv (s : State) : (stopTx s).valPv = s.valPv := rfl
@[simp] theorem stopTx_out (s : State) : (stopTx s).out = s.out := rfl
@[simp] theorem stopTx_txs (s : State) : (stopTx s).txs = s.txs := rfl
@[simp] theorem stopTx_io (s : State) : (stopTx s).io = s.io := rfl
@[simp] theorem stopTx_idle (s : State) : (stopTx s).idle = s.idle := rfl
@[simp] theorem stopTx_deploy (s : State) : (stopTx s).deploy = s.deploy := rfl
@[simp] theorem stopTx_pending (s : State) : (stopTx s).pending = s.pending := rfl

/-! ### `quietPort` -/

@[simp] theorem quietPort_session (s : State) : (quietPort s).session = s.session := rfl
@[simp] theorem quietPort_cfg (s : State) : (quietPort s).cfg = s.cfg := rfl
@[simp] theorem quietPort_scale (s : State) : (quietPort s).scale = s.scale := rfl
@[simp] theorem quietPort_lut (s : State) : (quietPort s).lut = s.lut := rfl
@[simp] theorem quietPort_dec (s : State) : (quietPort s).dec = s.dec := rfl
@[simp] theorem quietPort_rx (s : State) : (quietPort s).rx = s.rx := rfl
@[simp] theorem quietPort_enc (s : State) : (quietPort s).enc = s.enc := rfl
@[simp] theorem quietPort_txLevel (s : State) : (quietPort s).txLevel = s.txLevel := rfl
@[simp] theorem quietPort_pkt (s : State) : (quietPort s).pkt = s.pkt := rfl
@[simp] theorem quietPort_txBits (s : State) : (quietPort s).txBits = s.txBits := rfl
@[simp] theorem quietPort_txRepeats (s : State) : (quietPort s).txRepeats = s.txRepeats := rfl
@[simp] theorem quietPort_args (s : State) : (quietPort s).args = s.args := rfl
@[simp] theorem quietPort_res0 (s : State) : (quietPort s).res0 = s.res0 := rfl
@[simp] theorem quietPort_err (s : State) : (quietPort s).err = s.err := rfl
@[simp] theorem quietPort_cnt (s : State) : (quietPort s).cnt = s.cnt := rfl
@[simp] theorem quietPort_outReg (s : State) : (quietPort s).outReg = s.outReg := rfl
@[simp] theorem quietPort_valPv (s : State) : (quietPort s).valPv = s.valPv := rfl
@[simp] theorem quietPort_out (s : State) : (quietPort s).out = s.out := rfl
@[simp] theorem quietPort_txs (s : State) : (quietPort s).txs = s.txs := rfl
@[simp] theorem quietPort_io (s : State) : (quietPort s).io = .quiet := rfl
@[simp] theorem quietPort_idle (s : State) : (quietPort s).idle = s.idle := rfl
@[simp] theorem quietPort_deploy (s : State) : (quietPort s).deploy = s.deploy := rfl
@[simp] theorem quietPort_pending (s : State) : (quietPort s).pending = s.pending := rfl

/-! ### `gotoStep` -/

@[simp] theorem gotoStep_session (p : SeqPos) (s : State) : (gotoStep p s).session = s.session := rfl
@[simp] theorem gotoStep_cfg (p : SeqPos) (s : State) : (gotoStep p s).cfg = s.cfg := rfl
@[simp] theorem gotoStep_scale (p : SeqPos) (s : State) : (gotoStep p s).scale = s.scale := rfl
@[simp] theorem gotoStep_lut (p : SeqPos) (s : State) : (gotoStep p s).lut = s.lut := rfl
@[simp] theorem gotoStep_dec (p : SeqPos) (s : State) : (gotoStep p s).dec = s.dec := rfl
@[simp] theorem gotoStep_rx (p : SeqPos) (s : State) : (gotoStep p s).rx = s.rx := rfl
@[simp] theorem gotoStep_enc (p : SeqPos) (s : State) : (gotoStep p s).enc = { s.enc with step := p } := rfl
@[simp] theorem gotoStep_txLevel (p : SeqPos) (s : State) : (gotoStep p s).txLevel = s.txLevel := rfl
@[simp] theorem gotoStep_pkt (p : SeqPos) (s : State) : (gotoStep p s).pkt = s.pkt := rfl
@[simp] theorem gotoStep_txBits (p : SeqPos) (s : State) : (gotoStep p s).txBits = s.txBits := rfl
@[simp] theorem gotoStep_txRepeats (p : SeqPos) (s : State) : (gotoStep p s).txRepeats = s.txRepeats := rfl
@[simp] theorem gotoStep_args (p : SeqPos) (s : State) : (gotoStep p s).args = s.args := rfl
@[simp] theorem gotoStep_res0 (p : SeqPos) (s : State) : (gotoStep p s).res0 = s.res0 := rfl
@[simp] theorem gotoStep_err (p : SeqPos) (s : State) : (gotoStep p s).err = s.err := rfl
@[simp] theorem gotoStep_cnt (p : SeqPos) (s : State) : (gotoStep p s).cnt = s.cnt := rfl
@[simp] theorem gotoStep_outReg (p : SeqPos) (s : State) : (gotoStep p s).outReg = s.outReg := rfl
@[simp] theorem gotoStep_valPv (p : SeqPos) (s : State) : (gotoStep p s).valPv = s.valPv := rfl
@[simp] theorem gotoStep_out (p : SeqPos) (s : State) : (gotoStep p s).out = s.out := rfl
@[simp] theorem gotoStep_txs (p : SeqPos) (s : State) : (gotoStep p s).txs = s.txs := rfl
@[simp] theorem gotoStep_io (p : SeqPos) (s : State) : (gotoStep p s).io = s.io := rfl
@[simp] theorem gotoStep_idle (p : SeqPos) (s : State) : (gotoStep p s).idle = s.idle := rfl
@[simp] theorem gotoStep_deploy (p : SeqPos) (s : State) : (gotoStep p s).deploy = s.deploy := rfl
@[simp] theorem gotoStep_pending (p : SeqPos) (s : State) : (gotoStep p s).pending = s.pending := rfl

/-! ### `emitTx` -/

@[simp] theorem emitTx_session (l : Bool) (d : U32) (s : State) : (emitTx l d s).session = s.session := rfl
@[simp] theorem emitTx_cfg (l : Bool) (d : U32) (s : State) : (emitTx l d s).cfg = s.cfg := rfl
@[simp] theorem emitTx_scale (l : Bool) (d : U32) (s : State) : (emitTx l d s).scale = s.scale := rfl
@[simp] theorem emitTx_lut (l : Bool) (d : U32) (s : State) : (emitTx l d s).lut = s.lut := rfl
@[simp] theorem emitTx_dec (l : Bool) (d : U32) (s : State) : (emitTx l d s).dec = s.dec := rfl
@[simp] theorem emitTx_rx (l : Bool) (d : U32) (s : State) : (emitTx l d s).rx = s.rx := rfl
@[simp] theorem emitTx_enc (l : Bool) (d : U32) (s : State) : (emitTx l d s).enc = s.enc := rfl
@[simp] theorem emitTx_txLevel (l : Bool) (d : U32) (s : State) : (emitTx l d s).txLevel = s.txLevel := rfl
@[simp] theorem emitTx_pkt (l : Bool) (d : U32) (s : State) : (emitTx l d s).pkt = s.pkt := rfl
@[simp] theorem emitTx_txBits (l : Bool) (d : U32) (s : State) : (emitTx l d s).txBits = s.txBits := rfl
@[simp] theorem emitTx_txRepeats (l : Bool) (d : U32) (s : State) : (emitTx l d s).txRepeats = s.txRepeats := rfl
@[simp] theorem emitTx_args (l : Bool) (d : U32) (s : State) : (emitTx l d s).args = s.args := rfl
@[simp] theorem emitTx_res0 (l : Bool) (d : U32) (s : State) : (emitTx l d s).res0 = s.res0 := rfl
@[simp] theorem emitTx_err (l : Bool) (d : U32) (s : State) : (emitTx l d s).err = s.err := rfl
@[simp] theorem emitTx_cnt (l : Bool) (d : U32) (s : State) : (emitTx l d s).cnt = s.cnt := rfl
@[simp] theorem emitTx_outReg (l : Bool) (d : U32) (s : State) : (emitTx l d s).outReg = s.outReg := rfl
@[simp] theorem emitTx_valPv (l : Bool) (d : U32) (s : State) : (emitTx l d s).valPv = s.valPv := rfl
@[simp] theorem emitTx_out (l : Bool) (d : U32) (s : State) : (emitTx l d s).out = s.out := rfl
@[simp] theorem emitTx_txs (l : Bool) (d : U32) (s : State) :
    (emitTx l d s).txs = s.txs ++ [{ level := l, dur := d }] := rfl
@[simp] theorem emitTx_io (l : Bool) (d : U32) (s : State) : (emitTx l d s).io = s.io := rfl
@[simp] theorem emitTx_idle (l : Bool) (d : U32) (s : State) : (emitTx l d s).idle = s.idle := rfl
@[simp] theorem emitTx_deploy (l : Bool) (d : U32) (s : State) : (emitTx l d s).deploy = s.deploy := rfl
@[simp] theorem emitTx_pending (l : Bool) (d : U32) (s : State) : (emitTx l d s).pending = s.pending := rfl

/-! ### `emitPkt` -/

@[simp] theorem emitPkt_session (r : OutRecord) (s : State) : (emitPkt r s).session = s.session := rfl
@[simp] theorem emitPkt_cfg (r : OutRecord) (s : State) : (emitPkt r s).cfg = s.cfg := rfl
@[simp] theorem emitPkt_scale (r : OutRecord) (s : State) : (emitPkt r s).scale = s.scale := rfl
@[simp] theorem emitPkt_lut (r : OutRecord) (s : State) : (emitPkt r s).lut = s.lut := rfl
@[simp] theorem emitPkt_dec (r : OutRecord) (s : State) : (emitPkt r s).dec = s.dec := rfl
@[simp] theorem emitPkt_rx (r : OutRecord) (s : State) : (emitPkt r s).rx = s.rx := rfl
@[simp] theorem emitPkt_enc (r : OutRecord) (s : State) : (emitPkt r s).enc = s.enc := rfl
@[simp] theorem emitPkt_txLevel (r : OutRecord) (s : State) : (emitPkt r s).txLevel = s.txLevel := rfl
@[simp] theorem emitPkt_pkt (r : OutRecord) (s : State) : (emitPkt r s).pkt = s.pkt := rfl
@[simp] theorem emitPkt_txBits (r : OutRecord) (s : State) : (emitPkt r s).txBits = s.txBits := rfl
@[simp] theorem emitPkt_txRepeats (r : OutRecord) (s : State) : (emitPkt r s).txRepeats = s.txRepeats := rfl
@[simp] theorem emitPkt_args (r : OutRecord) (s : State) : (emitPkt r s).args = s.args := rfl
@[simp] theorem emitPkt_res0 (r : OutRecord) (s : State) : (emitPkt r s).res0 = s.res0 := rfl
@[simp] theorem emitPkt_err (r : OutRecord) (s : State) : (emitPkt r s).err = s.err := rfl
@[simp] theorem emitPkt_cnt (r : OutRecord) (s : State) :
    (emitPkt r s).cnt = { s.cnt with pkt := satInc s.cnt.pkt } := rfl
@[simp] theorem emitPkt_outReg (r : OutRecord) (s : State) : (emitPkt r s).outReg = r := rfl
@[simp] theorem emitPkt_valPv (r : OutRecord) (s : State) : (emitPkt r s).valPv = s.valPv := rfl
@[simp] theorem emitPkt_out (r : OutRecord) (s : State) : (emitPkt r s).out = s.out ++ [r] := rfl
@[simp] theorem emitPkt_txs (r : OutRecord) (s : State) : (emitPkt r s).txs = s.txs := rfl
@[simp] theorem emitPkt_io (r : OutRecord) (s : State) : (emitPkt r s).io = { s.io with pktReady := true } := rfl
@[simp] theorem emitPkt_idle (r : OutRecord) (s : State) : (emitPkt r s).idle = s.idle := rfl
@[simp] theorem emitPkt_deploy (r : OutRecord) (s : State) : (emitPkt r s).deploy = s.deploy := rfl
@[simp] theorem emitPkt_pending (r : OutRecord) (s : State) : (emitPkt r s).pending = s.pending := rfl

/-! ### `raise_violation` -/

@[simp] theorem raise_violation_session (s : State) : (raise .protocolViolation s).session = s.session := rfl
@[simp] theorem raise_violation_cfg (s : State) : (raise .protocolViolation s).cfg = s.cfg := rfl
@[simp] theorem raise_violation_scale (s : State) : (raise .protocolViolation s).scale = s.scale := rfl
@[simp] theorem raise_violation_lut (s : State) : (raise .protocolViolation s).lut = s.lut := rfl
@[simp] theorem raise_violation_dec (s : State) : (raise .protocolViolation s).dec = .resetState := rfl
@[simp] theorem raise_violation_rx (s : State) : (raise .protocolViolation s).rx = s.rx := rfl
@[simp] theorem raise_violation_enc (s : State) : (raise .protocolViolation s).enc = s.enc := rfl
@[simp] theorem raise_violation_txLevel (s : State) : (raise .protocolViolation s).txLevel = s.txLevel := rfl
@[simp] theorem raise_violation_pkt (s : State) : (raise .protocolViolation s).pkt = s.pkt := rfl
@[simp] theorem raise_violation_txBits (s : State) : (raise .protocolViolation s).txBits = s.txBits := rfl
@[simp] theorem raise_violation_txRepeats (s : State) : (raise .protocolViolation s).txRepeats = s.txRepeats := rfl
@[simp] theorem raise_violation_args (s : State) : (raise .protocolViolation s).args = s.args := rfl
@[simp] theorem raise_violation_res0 (s : State) : (raise .protocolViolation s).res0 = s.res0 := rfl
@[simp] theorem raise_violation_err (s : State) : (raise .protocolViolation s).err = s.err := rfl
@[simp] theorem raise_violation_cnt (s : State) :
    (raise .protocolViolation s).cnt = { s.cnt with viol := satInc s.cnt.viol } := rfl
@[simp] theorem raise_violation_outReg (s : State) : (raise .protocolViolation s).outReg = s.outReg := rfl
@[simp] theorem raise_violation_valPv (s : State) : (raise .protocolViolation s).valPv = s.valPv := rfl
@[simp] theorem raise_violation_out (s : State) : (raise .protocolViolation s).out = s.out := rfl
@[simp] theorem raise_violation_txs (s : State) : (raise .protocolViolation s).txs = s.txs := rfl
@[simp] theorem raise_violation_io (s : State) : (raise .protocolViolation s).io = s.io := rfl
@[simp] theorem raise_violation_idle (s : State) : (raise .protocolViolation s).idle = s.idle := rfl
@[simp] theorem raise_violation_deploy (s : State) : (raise .protocolViolation s).deploy = s.deploy := rfl
@[simp] theorem raise_violation_pending (s : State) : (raise .protocolViolation s).pending = s.pending := rfl

/-! ### `raise_length` -/

@[simp] theorem raise_length_session (s : State) : (raise .lengthMismatch s).session = s.session := rfl
@[simp] theorem raise_length_cfg (s : State) : (raise .lengthMismatch s).cfg = s.cfg := rfl
@[simp] theorem raise_length_scale (s : State) : (raise .lengthMismatch s).scale = s.scale := rfl
@[simp] theorem raise_length_lut (s : State) : (raise .lengthMismatch s).lut = s.lut := rfl
@[simp] theorem raise_length_dec (s : State) : (raise .lengthMismatch s).dec = s.dec := rfl
@[simp] theorem raise_length_rx (s : State) : (raise .lengthMismatch s).rx = s.rx := rfl
@[simp] theorem raise_length_enc (s : State) : (raise .lengthMismatch s).enc = s.enc := rfl
@[simp] theorem raise_length_txLevel (s : State) : (raise .lengthMismatch s).txLevel = s.txLevel := rfl
@[simp] theorem raise_length_pkt (s : State) : (raise .lengthMismatch s).pkt = s.pkt := rfl
@[simp] theorem raise_length_txBits (s : State) : (raise .lengthMismatch s).txBits = s.txBits := rfl
@[simp] theorem raise_length_txRepeats (s : State) : (raise .lengthMismatch s).txRepeats = s.txRepeats := rfl
@[simp] theorem raise_length_args (s : State) : (raise .lengthMismatch s).args = s.args := rfl
@[simp] theorem raise_length_res0 (s : State) : (raise .lengthMismatch s).res0 = s.res0 := rfl
@[simp] theorem raise_length_err (s : State) : (raise .lengthMismatch s).err = s.err := rfl
@[simp] theorem raise_length_cnt (s : State) :
    (raise .lengthMismatch s).cnt = { s.cnt with lenMiss := satInc s.cnt.lenMiss } := rfl
@[simp] theorem raise_length_outReg (s : State) : (raise .lengthMismatch s).outReg = s.outReg := rfl
@[simp] theorem raise_length_valPv (s : State) : (raise .lengthMismatch s).valPv = s.valPv := rfl
@[simp] theorem raise_length_out (s : State) : (raise .lengthMismatch s).out = s.out := rfl
@[simp] theorem raise_length_txs (s : State) : (raise .lengthMismatch s).txs = s.txs := rfl
@[simp] theorem raise_length_io (s : State) : (raise .lengthMismatch s).io = s.io := rfl
@[simp] theorem raise_length_idle (s : State) : (raise .lengthMismatch s).idle = s.idle := rfl
@[simp] theorem raise_length_deploy (s : State) : (raise .lengthMismatch s).deploy = s.deploy := rfl
@[simp] theorem raise_length_pending (s : State) : (raise .lengthMismatch s).pending = s.pending := rfl

/-! ### `raise_checksum` -/

@[simp] theorem raise_checksum_session (s : State) : (raise .checksumFailure s).session = s.session := rfl
@[simp] theorem raise_checksum_cfg (s : State) : (raise .checksumFailure s).cfg = s.cfg := rfl
@[simp] theorem raise_checksum_scale (s : State) : (raise .checksumFailure s).scale = s.scale := rfl
@[simp] theorem raise_checksum_lut (s : State) : (raise .checksumFailure s).lut = s.lut := rfl
@[simp] theorem raise_checksum_dec (s : State) : (raise .checksumFailure s).dec = s.dec := rfl
@[simp] theorem raise_checksum_rx (s : State) : (raise .checksumFailure s).rx = s.rx := rfl
@[simp] theorem raise_checksum_enc (s : State) : (raise .checksumFailure s).enc = s.enc := rfl
@[simp] theorem raise_checksum_txLevel (s : State) : (raise .checksumFailure s).txLevel = s.txLevel := rfl
@[simp] theorem raise_checksum_pkt (s : State) : (raise .checksumFailure s).pkt = s.pkt := rfl
@[simp] theorem raise_checksum_txBits (s : State) : (raise .checksumFailure s).txBits = s.txBits := rfl
@[simp] theorem raise_checksum_txRepeats (s : State) : (raise .checksumFailure s).txRepeats = s.txRepeats := rfl
@[simp] theorem raise_checksum_args (s : State) : (raise .checksumFailure s).args = s.args := rfl
@[simp] theorem raise_checksum_res0 (s : State) : (raise .checksumFailure s).res0 = s.res0 := rfl
@[simp] theorem raise_checksum_err (s : State) : (raise .checksumFailure s).err = { s.err with chkFail := true } := rfl
@[simp] theorem raise_checksum_cnt (s : State) :
    (raise .checksumFailure s).cnt = { s.cnt with chkFail := satInc s.cnt.chkFail } := rfl
@[simp] theorem raise_checksum_outReg (s : State) : (raise .checksumFailure s).outReg = s.outReg := rfl
@[simp] theorem raise_checksum_valPv (s : State) : (raise .checksumFailure s).valPv = s.valPv := rfl
@[simp] theorem raise_checksum_out (s : State) : (raise .checksumFailure s).out = s.out := rfl
@[simp] theorem raise_checksum_txs (s : State) : (raise .checksumFailure s).txs = s.txs := rfl
@[simp] theorem raise_checksum_io (s : State) : (raise .checksumFailure s).io = s.io := rfl
@[simp] theorem raise_checksum_idle (s : State) : (raise .checksumFailure s).idle = s.idle := rfl
@[simp] theorem raise_checksum_deploy (s : State) : (raise .checksumFailure s).deploy = s.deploy := rfl
@[simp] theorem raise_checksum_pending (s : State) : (raise .checksumFailure s).pending = s.pending := rfl

/-! ### `raise_config` -/

@[simp] theorem raise_config_session (s : State) : (raise .configurationError s).session = s.session := rfl
@[simp] theorem raise_config_cfg (s : State) : (raise .configurationError s).cfg = s.cfg := rfl
@[simp] theorem raise_config_scale (s : State) : (raise .configurationError s).scale = s.scale := rfl
@[simp] theorem raise_config_lut (s : State) : (raise .configurationError s).lut = s.lut := rfl
@[simp] theorem raise_config_dec (s : State) : (raise .configurationError s).dec = s.dec := rfl
@[simp] theorem raise_config_rx (s : State) : (raise .configurationError s).rx = s.rx := rfl
@[simp] theorem raise_config_enc (s : State) : (raise .configurationError s).enc = s.enc := rfl
@[simp] theorem raise_config_txLevel (s : State) : (raise .configurationError s).txLevel = s.txLevel := rfl
@[simp] theorem raise_config_pkt (s : State) : (raise .configurationError s).pkt = s.pkt := rfl
@[simp] theorem raise_config_txBits (s : State) : (raise .configurationError s).txBits = s.txBits := rfl
@[simp] theorem raise_config_txRepeats (s : State) : (raise .configurationError s).txRepeats = s.txRepeats := rfl
@[simp] theorem raise_config_args (s : State) : (raise .configurationError s).args = s.args := rfl
@[simp] theorem raise_config_res0 (s : State) : (raise .configurationError s).res0 = s.res0 := rfl
@[simp] theorem raise_config_err (s : State) : (raise .configurationError s).err = { s.err with cfgErr := true } := rfl
@[simp] theorem raise_config_cnt (s : State) : (raise .configurationError s).cnt = s.cnt := rfl
@[simp] theorem raise_config_outReg (s : State) : (raise .configurationError s).outReg = s.outReg := rfl
@[simp] theorem raise_config_valPv (s : State) : (raise .configurationError s).valPv = s.valPv := rfl
@[simp] theorem raise_config_out (s : State) : (raise .configurationError s).out = s.out := rfl
@[simp] theorem raise_config_txs (s : State) : (raise .configurationError s).txs = s.txs := rfl
@[simp] theorem raise_config_io (s : State) : (raise .configurationError s).io = s.io := rfl
@[simp] theorem raise_config_idle (s : State) : (raise .configurationError s).idle = s.idle := rfl
@[simp] theorem raise_config_deploy (s : State) : (raise .configurationError s).deploy = s.deploy := rfl
@[simp] theorem raise_config_pending (s : State) : (raise .configurationError s).pending = s.pending := rfl

/-! ### `raise_calibration` -/

@[simp] theorem raise_calibration_session (s : State) : (raise .calibrationFailure s).session = .halted := rfl
@[simp] theorem raise_calibration_cfg (s : State) : (raise .calibrationFailure s).cfg = s.cfg := rfl
@[simp] theorem raise_calibration_scale (s : State) : (raise .calibrationFailure s).scale = s.scale := rfl
@[simp] theorem raise_calibration_lut (s : State) : (raise .calibrationFailure s).lut = s.lut := rfl
@[simp] theorem raise_calibration_dec (s : State) : (raise .calibrationFailure s).dec = .resetState := rfl
@[simp] theorem raise_calibration_rx (s : State) :
    (raise .calibrationFailure s).rx = { s.rx with rxEn := false, prevValid := false, wdArmed := false } := rfl
@[simp] theorem raise_calibration_enc (s : State) :
    (raise .calibrationFailure s).enc = { s.enc with encState := .idle, repIdx := 0, bitIdx := 0, step := .p1 } := rfl
@[simp] theorem raise_calibration_txLevel (s : State) : (raise .calibrationFailure s).txLevel = false := rfl
@[simp] theorem raise_calibration_pkt (s : State) : (raise .calibrationFailure s).pkt = s.pkt := rfl
@[simp] theorem raise_calibration_txBits (s : State) : (raise .calibrationFailure s).txBits = s.txBits := rfl
@[simp] theorem raise_calibration_txRepeats (s : State) : (raise .calibrationFailure s).txRepeats = s.txRepeats := rfl
@[simp] theorem raise_calibration_args (s : State) : (raise .calibrationFailure s).args = s.args := rfl
@[simp] theorem raise_calibration_res0 (s : State) : (raise .calibrationFailure s).res0 = s.res0 := rfl
@[simp] theorem raise_calibration_err (s : State) :
    (raise .calibrationFailure s).err = { s.err with calFail := true } := rfl
@[simp] theorem raise_calibration_cnt (s : State) : (raise .calibrationFailure s).cnt = s.cnt := rfl
@[simp] theorem raise_calibration_outReg (s : State) : (raise .calibrationFailure s).outReg = s.outReg := rfl
@[simp] theorem raise_calibration_valPv (s : State) : (raise .calibrationFailure s).valPv = s.valPv := rfl
@[simp] theorem raise_calibration_out (s : State) : (raise .calibrationFailure s).out = s.out := rfl
@[simp] theorem raise_calibration_txs (s : State) : (raise .calibrationFailure s).txs = s.txs := rfl
@[simp] theorem raise_calibration_io (s : State) :
    (raise .calibrationFailure s).io = { s.io with fatal := true } := rfl
@[simp] theorem raise_calibration_idle (s : State) : (raise .calibrationFailure s).idle = s.idle := rfl
@[simp] theorem raise_calibration_deploy (s : State) : (raise .calibrationFailure s).deploy = s.deploy := rfl
@[simp] theorem raise_calibration_pending (s : State) : (raise .calibrationFailure s).pending = s.pending := rfl

end Sys2Proof.Machine
end

