-- ==== Sys2Proof/Laws/Ops.lean ====
section
/-! SUPPORT. For each shared operation one lemma that says everything it can do; later proofs cite these instead of
unfolding the operation. -/

namespace Sys2Proof.Machine

/-! ## Arithmetic -/

theorem satInc_toNat {n : Nat} (x : BitVec n) : (satInc x).toNat = min (x.toNat + 1) (2 ^ n - 1) := by
  have hx := x.isLt
  unfold satInc
  split
  · next h => subst h; simp [BitVec.toNat_allOnes]
  · next h =>
    have hne : x.toNat ≠ 2 ^ n - 1 := fun he => h (BitVec.eq_of_toNat_eq (by simpa [BitVec.toNat_allOnes] using he))
    have h1 : (1#n).toNat = 1 % 2 ^ n := by simp
    rw [BitVec.toNat_add]
    change (x.toNat + (1#n).toNat) % 2 ^ n = _
    rw [h1, Nat.add_mod_mod, Nat.mod_eq_of_lt (by omega)]
    omega

theorem addSum_toNat (sum : BitVec 40) (d : U32) : (addSum sum d).toNat = (sum.toNat + d.toNat) % 2 ^ 40 := by
  have hd := d.isLt
  simp [addSum, BitVec.toNat_add, BitVec.toNat_setWidth]

theorem shiftIn_toNat (code : BitVec 80) (b : Bool) :
    (shiftIn code b).toNat = (2 * code.toNat + b.toNat) % 2 ^ 80 := by
  have h : shiftIn code b = code <<< 1 + (BitVec.ofBool b).setWidth 80 := by
    unfold shiftIn
    rw [BitVec.add_eq_or_of_and_eq_zero]
    ext i hi
    cases b <;> rcases i with _ | i <;> simp
  rw [h, BitVec.toNat_add, BitVec.toNat_shiftLeft]
  cases b <;> simp [Nat.shiftLeft_eq, Nat.mul_comm]

theorem bandLo_toNat (nominal : U32) (tol : BitVec 7) :
    (bandLo nominal tol).toNat = (nominal.toNat * (100 - tol.toNat) + 99) / 100 := by
  have hn := nominal.isLt
  have h1 : nominal.toNat * (100 - tol.toNat) ≤ nominal.toNat * 100 := Nat.mul_le_mul_left _ (by omega)
  simp only [bandLo, BitVec.toNat_ofNat]
  exact Nat.mod_eq_of_lt (by omega)

theorem bandHi_toNat (nominal : U32) (tol : BitVec 7) :
    (bandHi nominal tol).toNat = min (nominal.toNat * (100 + tol.toNat) / 100) (2 ^ 32 - 1) := by
  simp only [bandHi, BitVec.toNat_ofNat]
  exact Nat.mod_eq_of_lt (by omega)

/-- `duration` is the difference modulo 2^32 (42_classifier.md R120). -/
theorem duration_toNat (ts prev : U32) : (duration ts prev).toNat = (ts.toNat + 2 ^ 32 - prev.toNat) % 2 ^ 32 := by
  have h1 := ts.isLt
  have h2 := prev.isLt
  simp only [duration, BitVec.toNat_sub]
  congr 1
  omega

/-! ## The segment word -/

theorem Segment.word_toNat (g : Segment) : g.word.toNat = 2 ^ 32 * g.level.toNat + g.dur.toNat := by
  have h : g.word.toNat = (bit g.level).toNat <<< 32 ||| g.dur.toNat := BitVec.toNat_append _ _
  rw [h, ← Nat.shiftLeft_add_eq_or_of_lt g.dur.isLt, Nat.shiftLeft_eq, Nat.mul_comm]
  cases g.level <;> rfl

/-- A pair and its word determine each other (30_encoding.md R64). -/
@[simp] theorem Segment.ofWord_word (g : Segment) : Segment.ofWord g.word = g := by
  have hd := g.dur.isLt
  have hb : g.word.getLsbD 32 = g.level := by
    rw [BitVec.getLsbD, Nat.testBit_eq_decide_div_mod_eq, Segment.word_toNat]
    cases g.level <;> simp <;> omega
  have hw : g.word.extractLsb' 0 32 = g.dur := by
    apply BitVec.eq_of_toNat_eq
    rw [BitVec.extractLsb'_toNat, Segment.word_toNat]
    simp only [Nat.shiftRight_zero]
    omega
  rw [Segment.ofWord, hb, hw]

/-! ## The register map -/

/-- The numbers of `CMD` and `ERR` are theirs alone (10_state.md R16). -/
theorem regOf_cmd_err : ∀ n : Byte,
    (regOf n = some .cmd ↔ n = 0x00#8) ∧ (regOf n = some .err ↔ n = 0x02#8) := by
  decide +kernel

/-- Replacing the value of one kind leaves the others. -/
theorem PerKind.get_set {α : Type} (p : PerKind α) (k j : Kind) (a : α) :
    (p.set k a).get j = if j = k then a else p.get j := by
  cases k <;> cases j <;> rfl

/-- Replacing one operand register leaves the others. -/
theorem Args.get_set (a : Args) (i j : Fin 5) (v : U32) : (a.set i v).get j = if j = i then v else a.get j := by
  fin_cases i <;> fin_cases j <;> rfl

theorem kind_mem_kinds (k : Kind) : k ∈ kinds := by cases k <;> simp [kinds]

theorem forall_kind (P : Kind → Prop) :
    (∀ k, P k) ↔ P .syncGap ∧ P .pulse ∧ P .short ∧ P .long ∧ P .sync ∧ P .gap :=
  ⟨fun h => ⟨h _, h _, h _, h _, h _, h _⟩, fun ⟨a, b, c, d, e, f⟩ k => by cases k <;> assumption⟩

/-! ## Conditions -/

/-- The watchdog's condition but for the idle time (43_decoder.md R150). -/
theorem wdReady_iff (s : State) :
    s.wdReady = true ↔
      s.session = .running ∧ s.rx.rxEn = true ∧ s.rx.wdArmed = true ∧ s.dec.state = .dataCollect ∧
        s.dec.bitCount.toNat = s.cfg.expectedBits.toNat := by
  simp [State.wdReady, and_assoc]

/-- The checks of ENCODE (41_encoder.md R100). -/
theorem encodeAdmitted_iff (s : State) :
    encodeAdmitted s = true ↔
      s.session = .running ∧ s.enc.encState = .idle ∧ s.deploy.bitsMin ≤ s.txBits.toNat ∧
        s.txBits.toNat ≤ s.deploy.bitsMax ∧ s.deploy.repeatsMin ≤ s.txRepeats.toNat ∧
        s.txRepeats.toNat ≤ s.deploy.repeatsMax ∧
        ∀ k, 1 ≤ scaled s.scale (s.cfg.nominal.get k) ∧ scaled s.scale (s.cfg.nominal.get k) < 2 ^ 32 := by
  have em : ∀ t, emittable t = true ↔ 1 ≤ t ∧ t < 2 ^ 32 := by intro t; simp [emittable]
  rw [forall_kind]
  simp [encodeAdmitted, PerKind.allOf, em, scaledAll, PerKind.map, PerKind.get, and_assoc]

/-- The checks of LOCK (45_host_control.md R198). -/
theorem lock_iff (s : State) :
    (s.session == .config && s.cfg.nominal.allOf (· != 0) && s.cfg.expectedBits != 0) = true ↔
      s.session = .config ∧ (∀ k, s.cfg.nominal.get k ≠ 0) ∧ s.cfg.expectedBits ≠ 0 := by
  rw [forall_kind]
  simp [PerKind.allOf, PerKind.get, and_assoc]

/-! ## Operations -/

/-- An admitted command is performed, any other only raises ConfigurationError. -/
theorem gated_cases (ok : Bool) (op : State → State) (s : State) :
    ok = true ∧ gated ok op s = op s ∨ ok = false ∧ gated ok op s = raise .configurationError s := by
  cases ok <;> simp [gated]

@[simp] theorem gated_true (op : State → State) (s : State) : gated true op s = op s := rfl

@[simp] theorem gated_false (op : State → State) (s : State) :
    gated false op s = raise .configurationError s := rfl

/-- What a validator result leaves in the error state. -/
theorem raiseForResult_cases (r : PvResult) (s : State) :
    r.err = 4 ∧ raiseForResult r s = raise .checksumFailure s ∨ r.err ≠ 4 ∧ raiseForResult r s = s := by
  by_cases h : r.err = 4
  · exact .inl ⟨h, if_pos h⟩
  · exact .inr ⟨h, if_neg h⟩

/-- `accept` as one update (43_decoder.md R149). -/
theorem accept_eq (s : State) :
    accept s =
      { s with
        out := s.out ++ [acceptRecord s], outReg := acceptRecord s, io := { s.io with pktReady := true },
        cnt :=
          { s.cnt with
            pkt := satInc s.cnt.pkt
            chkFail := if (acceptRecord s).pv.err = 4 then satInc s.cnt.chkFail else s.cnt.chkFail },
        err := { s.err with chkFail := s.err.chkFail || (acceptRecord s).pv.err == 4 } } := by
  rcases raiseForResult_cases (acceptRecord s).pv s with ⟨h, e⟩ | ⟨h, e⟩ <;> rw [accept, e]
  · simp [emitPkt, raise, h]
  · have hb : ((acceptRecord s).pv.err == 4) = false := by simpa using h
    simp only [hb, Bool.or_false, if_neg h]
    rfl

/-- Everything an interval event can do (43_decoder.md R139 to R147). -/
theorem evInterval_cases (k : Option Kind) (d : U32) (s : State) :
    evInterval k d s = raise .protocolViolation s ∨
    (s.dec.phase = .expectInterval ∧ s.dec.state = .syncWait ∧ k = some .syncGap ∧ s.dec.syncCount ≠ 2 ∧
      evInterval k d s =
        { s with dec := { s.dec with phase := .expectPulse, syncCount := s.dec.syncCount + 1 } }) ∨
    (s.dec.phase = .expectInterval ∧ s.dec.state = .syncWait ∧ k = some .sync ∧ s.dec.syncCount = 2 ∧
      evInterval k d s =
        { s with
          dec :=
            { s.dec with phase := .expectPulse, state := .dataCollect, bitCount := 0, code := 0, syncCount := 0 } }) ∨
    (s.dec.phase = .expectInterval ∧ s.dec.state = .dataCollect ∧ k = some .short ∧
      evInterval k d s =
        { s with
          dec :=
            { s.dec with
              phase := .expectPulse, bitCount := satInc s.dec.bitCount, code := shiftIn s.dec.code false,
              sumShort := addSum s.dec.sumShort d, cntShort := satInc s.dec.cntShort } }) ∨
    (s.dec.phase = .expectInterval ∧ s.dec.state = .dataCollect ∧ k = some .long ∧
      evInterval k d s =
        { s with
          dec :=
            { s.dec with
              phase := .expectPulse, bitCount := satInc s.dec.bitCount, code := shiftIn s.dec.code true,
              sumLong := addSum s.dec.sumLong d, cntLong := satInc s.dec.cntLong } }) ∨
    (s.dec.phase = .expectInterval ∧ s.dec.state = .dataCollect ∧ k = some .gap ∧
      s.dec.bitCount.toNat = s.cfg.expectedBits.toNat ∧ evInterval k d s = decReset (accept s)) ∨
    (s.dec.phase = .expectInterval ∧ s.dec.state = .dataCollect ∧ k = some .gap ∧
      s.dec.bitCount.toNat ≠ s.cfg.expectedBits.toNat ∧
      evInterval k d s = decReset (raise .lengthMismatch s)) := by
  unfold evInterval
  cases hp : s.dec.phase
  · simp
  · cases hs : s.dec.state <;> rcases k with _ | k
    · simp [raise, decReset]
    · by_cases h : s.dec.syncCount = 2#2 <;> cases k <;> simp [raise, decReset, onSyncGap, onSync, h]
    · simp [raise, decReset]
    · cases k <;> simp [raise, decReset, onShort, onLong, onGap]
      by_cases h : s.dec.bitCount.toNat = s.cfg.expectedBits.toNat
      · simp only [h, if_true, accept_eq, acceptRecord]
        simp
        rfl
      · simp [h]

/-- What an interval event never touches (20_memory.md R51). -/
theorem evInterval_frame (k : Option Kind) (d : U32) (s : State) :
    evInterval k d s =
      { s with
        dec := (evInterval k d s).dec, out := (evInterval k d s).out, outReg := (evInterval k d s).outReg,
        cnt := (evInterval k d s).cnt, io := { s.io with pktReady := (evInterval k d s).io.pktReady },
        err := { s.err with chkFail := (evInterval k d s).err.chkFail } } := by
  rcases evInterval_cases k d s with h | ⟨_, _, _, _, h⟩ | ⟨_, _, _, _, h⟩ | ⟨_, _, _, h⟩ | ⟨_, _, _, h⟩ |
    ⟨_, _, _, _, h⟩ | ⟨_, _, _, _, h⟩ <;> rw [h] <;> first | rfl | (rw [accept_eq]; rfl)

/-- Everything a pulse event can do (43_decoder.md R138). -/
theorem evPulse_cases (d : U32) (s : State) :
    (s.dec.phase = .expectInterval ∧ evPulse d s = raise .protocolViolation s) ∨
    (s.dec.phase = .expectPulse ∧
      evPulse d s =
        { s with
          dec :=
            { s.dec with
              sumPulse := addSum s.dec.sumPulse d, cntPulse := satInc s.dec.cntPulse,
              phase := .expectInterval } }) := by
  unfold evPulse
  cases s.dec.phase <;> simp

/-- Everything an edge can do (42_classifier.md R120, R126). -/
theorem edgeOp_cases (l : Bool) (ts : U32) (s : State) :
    (¬(s.session = .running ∧ s.rx.rxEn = true) ∧ edgeOp l ts s = s) ∨
    (s.session = .running ∧ s.rx.rxEn = true ∧
      ∃ s1, s1 = { s with rx := { s.rx with wdArmed := true, prevTs := ts, prevValid := true }, idle := 0 } ∧
        ((s.rx.prevValid = false ∧ edgeOp l ts s = s1) ∨
          (s.rx.prevValid = true ∧ l = true ∧
            edgeOp l ts s = evInterval (s.cfg.classify (duration ts s.rx.prevTs)) (duration ts s.rx.prevTs) s1) ∨
          (s.rx.prevValid = true ∧ l = false ∧ edgeOp l ts s = evPulse (duration ts s.rx.prevTs) s1))) := by
  unfold edgeOp
  by_cases h : s.session = .running ∧ s.rx.rxEn = true
  · simp only [h, and_self, if_true]
    refine .inr ⟨trivial, trivial, _, rfl, ?_⟩
    cases s.rx.prevValid <;> cases l <;> simp
  · simp [h]

/-- Everything a sequencer step can do to the encoder and to `TXS` (41_encoder.md R105). -/
theorem seqOp_cases (s : State) :
    (s.enc.encState = .idle ∧ seqOp s = s) ∨
    (s.enc.encState = .busy ∧
      ∃ (g : Segment) (e : Encoder) (done : Bool),
        seqOp s =
          { s with
            txs := s.txs ++ [g], enc := e,
            io := { s.io with txDone := done || s.io.txDone } } ∧
        e.sPkt = s.enc.sPkt ∧ e.sBits = s.enc.sBits ∧ e.sReps = s.enc.sReps ∧
        ((s.enc.step = .p1 ∧ g = ⟨true, s.lut.pulse⟩ ∧ e = { s.enc with step := .sg1 } ∧ done = false) ∨
          (s.enc.step = .sg1 ∧ g = ⟨false, s.lut.syncGap⟩ ∧ e = { s.enc with step := .p2 } ∧ done = false) ∨
          (s.enc.step = .p2 ∧ g = ⟨true, s.lut.pulse⟩ ∧ e = { s.enc with step := .sg2 } ∧ done = false) ∨
          (s.enc.step = .sg2 ∧ g = ⟨false, s.lut.syncGap⟩ ∧ e = { s.enc with step := .p3 } ∧ done = false) ∨
          (s.enc.step = .p3 ∧ g = ⟨true, s.lut.pulse⟩ ∧ e = { s.enc with step := .sy } ∧ done = false) ∨
          (s.enc.step = .sy ∧ g = ⟨false, s.lut.sync⟩ ∧ e = { s.enc with step := .bp } ∧ done = false) ∨
          (s.enc.step = .bp ∧ g = ⟨true, s.lut.pulse⟩ ∧ e = { s.enc with step := .bg } ∧ done = false) ∨
          (s.enc.step = .bg ∧ g = ⟨false, bitGap s⟩ ∧ s.enc.bitIdx.toNat + 1 < s.enc.sBits.toNat ∧
            e = { s.enc with bitIdx := s.enc.bitIdx + 1, step := .bp } ∧ done = false) ∨
          (s.enc.step = .bg ∧ g = ⟨false, bitGap s⟩ ∧ ¬s.enc.bitIdx.toNat + 1 < s.enc.sBits.toNat ∧
            e = { s.enc with step := .tp } ∧ done = false) ∨
          (s.enc.step = .tp ∧ g = ⟨true, s.lut.pulse⟩ ∧ e = { s.enc with step := .tg } ∧ done = false) ∨
          (s.enc.step = .tg ∧ g = ⟨false, s.lut.gap⟩ ∧ s.enc.repIdx.toNat + 1 < s.enc.sReps.toNat ∧
            e = { s.enc with repIdx := s.enc.repIdx + 1, bitIdx := 0, step := .p1 } ∧ done = false) ∨
          (s.enc.step = .tg ∧ g = ⟨false, s.lut.gap⟩ ∧ ¬s.enc.repIdx.toNat + 1 < s.enc.sReps.toNat ∧
            e = { s.enc with encState := .idle, repIdx := 0, bitIdx := 0, step := .p1 } ∧ done = true))) := by
  unfold seqOp
  cases he : s.enc.encState
  · simp
  · right
    refine ⟨rfl, ?_⟩
    cases hs : s.enc.step
    case bg =>
      by_cases h : s.enc.bitIdx.toNat + 1 < s.enc.sBits.toNat
      · exact ⟨⟨false, bitGap s⟩, _, false, by simp only [afterBit, emitTx_enc, h, if_true]; rfl,
          by simp [he, h]⟩
      · exact ⟨⟨false, bitGap s⟩, _, false, by simp only [afterBit, emitTx_enc, h, if_false]; rfl,
          by simp [he, h]⟩
    case tg =>
      by_cases h : s.enc.repIdx.toNat + 1 < s.enc.sReps.toNat
      · exact ⟨⟨false, s.lut.gap⟩, _, false, by simp only [afterFrame, emitTx_enc, h, if_true]; rfl,
          by simp [he, h]⟩
      · exact ⟨⟨false, s.lut.gap⟩, _, true, by simp only [afterFrame, emitTx_enc, h, if_false]; rfl,
          by simp [h]⟩
    case sg1 => exact ⟨⟨false, s.lut.syncGap⟩, _, false, rfl, by simp [he]⟩
    case sg2 => exact ⟨⟨false, s.lut.syncGap⟩, _, false, rfl, by simp [he]⟩
    case sy => exact ⟨⟨false, s.lut.sync⟩, _, false, rfl, by simp [he]⟩
    all_goals exact ⟨⟨true, s.lut.pulse⟩, _, false, rfl, by simp [he]⟩

/-- Everything CAL_LOAD can do (40_calibrator.md R90). -/
theorem calLoadOp_cases (s : State) :
    (s.session ≠ .config ∧ calLoadOp s = raise .configurationError s) ∨
    (s.session = .config ∧
      (calDivisor s.args.a1 s.args.a2 = 0 ∨ calQuotient s.args.a0 s.args.a1 s.args.a2 = 0 ∨
        2 ^ 32 ≤ calQuotient s.args.a0 s.args.a1 s.args.a2) ∧
      calLoadOp s = raise .calibrationFailure s) ∨
    (s.session = .config ∧ calDivisor s.args.a1 s.args.a2 ≠ 0 ∧ calQuotient s.args.a0 s.args.a1 s.args.a2 ≠ 0 ∧
      calQuotient s.args.a0 s.args.a1 s.args.a2 < 2 ^ 32 ∧
      calLoadOp s = { s with scale := BitVec.ofNat 32 (calQuotient s.args.a0 s.args.a1 s.args.a2) }) := by
  unfold calLoadOp
  by_cases h : s.session = .config
  · simp only [h, beq_self_eq_true, gated_true]
    by_cases h1 : calDivisor s.args.a1 s.args.a2 = 0
    · simp [h1]
    · by_cases h2 : calQuotient s.args.a0 s.args.a1 s.args.a2 = 0 ∨
          2 ^ 32 ≤ calQuotient s.args.a0 s.args.a1 s.args.a2
      · simp only [h1, h2, if_true, if_false]
        simp
      · simp only [h1, h2, if_false]
        push Not at h2
        exact .inr (.inr ⟨trivial, h1, h2.1, h2.2, trivial⟩)
  · simp [gated, h]

/-- What a register write outside `CMD` and `ERR` can do (45_host_control.md R195). -/
theorem registerWrite_cases (n : Byte) (data : U32) (s : State) :
    registerWrite n data s = raise .configurationError s ∨
    ∃ r, regOf n = some r ∧ r.writable s.session = true ∧ r.legal data = true ∧
      registerWrite n data s = r.store data s := by
  unfold registerWrite
  cases h : regOf n with
  | none => simp
  | some r =>
    rcases gated_cases (r.writable s.session && r.legal data) (r.store data) s with ⟨h1, e⟩ | ⟨_, e⟩
    · rw [Bool.and_eq_true] at h1
      exact .inr ⟨r, rfl, h1.1, h1.2, e⟩
    · exact .inl e

/-- CFG_WRITE is the dispatch, the clearing of `ERR` bits or a register write, by the number
(45_host_control.md R195). -/
theorem cfgWriteOp_cases (n : Byte) (data : U32) (s : State) :
    (n = 0x00#8 ∧ cfgWriteOp n data s = commandOp (data.extractLsb' 0 8) s) ∨
    (n = 0x02#8 ∧ cfgWriteOp n data s = { s with err := s.err.writeOneToClear data }) ∨
    (n ≠ 0x00#8 ∧ n ≠ 0x02#8 ∧ cfgWriteOp n data s = registerWrite n data s) := by
  have h := regOf_cmd_err n
  unfold cfgWriteOp
  split
  · next e => exact .inl ⟨h.1.mp e, rfl⟩
  · next e => exact .inr (.inl ⟨h.2.mp e, rfl⟩)
  · next e1 e2 => exact .inr (.inr ⟨fun e => e1 (h.1.mpr e), fun e => e2 (h.2.mpr e), rfl⟩)

/-! ## The step -/

/-- Everything a step can do: the block's own operations, a rest, or the operation of the next input. -/
theorem step_cases (s : State) :
    (s.pending = [] ∧ s.enc.encState = .busy ∧ step s = exec .seqStep (quietPort s)) ∨
    (s.wdReady = true ∧ step s = exec .evWd (quietPort s)) ∨
    (s.pending = [] ∧ s.enc.encState = .idle ∧ s.wdReady = false ∧ step s = .next (quietPort s)) ∨
    (∃ stim rest, s.pending = stim :: rest ∧
      ¬(s.wdReady = true ∧ s.cfg.wdUs.toNat < s.idle + stim.delay) ∧
      step s =
        exec (decode s.cfg.variant stim.word)
          { quietPort s with pending := rest, idle := s.idle + stim.delay }) := by
  unfold step
  cases hp : s.pending with
  | nil =>
    cases he : s.enc.encState <;> cases hw : s.wdReady <;> simp
  | cons stim rest =>
    by_cases h : s.wdReady = true ∧ s.cfg.wdUs.toNat < s.idle + stim.delay
    · simp [h]
    · right; right; right
      refine ⟨stim, rest, rfl, h, ?_⟩
      have : (s.wdReady && decide (s.cfg.wdUs.toNat < s.idle + stim.delay)) = false := by
        simpa using h
      simp [this]

/-- A word that the host places is what the next step runs (log 1). -/
theorem step_withFetchWord (s : State) (nbits w : Nat) (pw : PortWord) (h : tableWord nbits w = some pw) :
    step (s.withFetchWord nbits w) = exec (decode s.cfg.variant pw) { quietPort s with idle := 0 } := by
  simp [State.withFetchWord, h, step, quietPort]

end Sys2Proof.Machine
end

