-- ==== Sys2Proof/Laws/Cases.lean ====
section
/-! SUPPORT. What one operation can do to the state, as one case list: a relation that holds for each of the block's
updates holds for every operation but RESET. -/

namespace Sys2Proof.Machine

/-- What an edge or EV_WD changes before the event reaches the decoder (42_classifier.md R120, 43_decoder.md R145). -/
def FrontEndStep (s s' : State) : Prop :=
  s' = s ∨
  (s.session = .running ∧ s.rx.rxEn = true ∧
    ∃ ts, s' = { s with rx := { s.rx with wdArmed := true, prevTs := ts, prevValid := true }, idle := 0 }) ∨
  s' = { s with rx := { s.rx with wdArmed := false } }

theorem FrontEndStep.frame {s s' : State} (h : FrontEndStep s s') : s' = { s with rx := s'.rx, idle := s'.idle } := by
  rcases h with rfl | ⟨_, _, _, rfl⟩ | rfl <;> rfl

/-- The operations that can raise CalibrationFailure. -/
def CanHalt (i : Instr) : Prop := i = .calFail ∨ i = .calLoad ∨ ∃ data, i = .cfgWrite 0x00#8 data

/-- The operations that can lock the configuration. -/
def CanLock (i : Instr) : Prop := i = .lock ∨ ∃ data, i = .cfgWrite 0x00#8 data

/-- The case principle: `R s` holds of the state after any operation but RESET if it holds after each of the block's
updates of `s`. -/
theorem exec_induction (R : State → State → Prop) (i : Instr) (hreset : i ≠ .reset) (s : State)
    (refl : R s s)
    (front : ∀ s', FrontEndStep s s' → R s s')
    (interval : ∀ k d s', FrontEndStep s s' → R s (evInterval k d s'))
    (pulse : ∀ d s', FrontEndStep s s' → R s (evPulse d s'))
    (read : ∀ v, R s { s with io := { s.io with rdata := v } })
    (clear : ∀ d, R s { s with err := s.err.writeOneToClear d })
    (store : ∀ r data, Reg.writable r s.session = true → r.legal data = true → R s (r.store data s))
    (config : R s (raise .configurationError s))
    (halt : CanHalt i → s.session ≠ .halted → R s (raise .calibrationFailure s))
    (scale : s.session = .config → calQuotient s.args.a0 s.args.a1 s.args.a2 ≠ 0 →
      calQuotient s.args.a0 s.args.a1 s.args.a2 < 2 ^ 32 →
      R s { s with scale := BitVec.ofNat 32 (calQuotient s.args.a0 s.args.a1 s.args.a2) })
    (lock : CanLock i → s.session = .config → (∀ k, s.cfg.nominal.get k ≠ 0) → s.cfg.expectedBits ≠ 0 →
      R s { s with session := .running })
    (rxStart : s.session = .running →
      R s (decReset { s with rx := { s.rx with rxEn := true, prevValid := false, wdArmed := false } }))
    (rxStop : s.session ≠ .halted → R s (stopRx s))
    (txStop : s.session ≠ .halted → R s (stopTx s))
    (encode : encodeAdmitted s = true →
      R s
        { s with
          lut := (scaledAll s).map (BitVec.ofNat 32)
          enc :=
            { encState := .busy, repIdx := 0, step := .p1, bitIdx := 0, sPkt := s.pkt.word, sBits := s.txBits,
              sReps := s.txRepeats } })
    (validate : ∀ r, R s { raiseForResult r s with valPv := r })
    (frame : ∀ pkt bits, R s { s with pkt := pkt, txBits := bits })
    (classify : ∀ r, R s { s with res0 := r })
    (seq : R s (seqOp s)) :
    ∀ t, exec i s = .next t → R s t := by
  have hadm : ∀ (ok : Bool) (op : State → State), (ok = true → R s (op s)) → R s (gated ok op s) := by
    intro ok op h
    rcases gated_cases ok op s with ⟨h1, e⟩ | ⟨_, e⟩ <;> rw [e]
    · exact h h1
    · exact config
  have hlock : CanLock i → R s (lockOp s) := fun hi =>
    hadm _ _ fun h => lock hi ((lock_iff s).1 h).1 ((lock_iff s).1 h).2.1 ((lock_iff s).1 h).2.2
  have hrxs : R s (rxStartOp s) := hadm _ _ fun h => rxStart (by simpa using h)
  have hrxc : R s (rxCancelOp s) := hadm _ _ fun h => rxStop (by simpa using h)
  have htxc : R s (txCancelOp s) := hadm _ _ fun h => txStop (by simpa using h)
  have henc : R s (encodeOp s) := hadm _ _ encode
  have hcalL : CanHalt i → R s (calLoadOp s) := by
    intro hi
    rcases calLoadOp_cases s with ⟨_, e⟩ | ⟨h, _, e⟩ | ⟨h, _, h2, h3, e⟩ <;> rw [e]
    · exact config
    · exact halt hi (by rw [h]; decide)
    · exact scale h h2 h3
  have hcalF : CanHalt i → R s (calFailOp s) := fun hi => hadm _ _ fun h => halt hi (by simpa using h)
  have hval : R s (validateOp s) := hadm _ _ fun _ => validate _
  have hfr : ∀ v, R s (frameOp v s) := fun v => hadm _ _ fun _ => frame _ _
  have hcls : R s (classifyOp s) := hadm _ _ fun _ => classify _
  have hcmd : (∃ data, i = .cfgWrite 0x00#8 data) → ∀ c, R s (commandOp c s) := by
    intro hi c
    unfold commandOp
    split
    · exact config
    · split <;>
        first
        | assumption
        | exact hfr _
        | exact hlock (.inr hi)
        | exact hcalL (.inr (.inr hi))
        | exact hcalF (.inr (.inr hi))
  intro t ht
  cases i
  case edge l ts =>
    injection ht with ht
    subst ht
    rcases edgeOp_cases l ts s with ⟨_, e⟩ | ⟨he1, he2, s1, hs1, (⟨_, e⟩ | ⟨_, _, e⟩ | ⟨_, _, e⟩)⟩ <;> rw [e]
    · exact refl
    · exact front _ (.inr (.inl ⟨he1, he2, _, hs1⟩))
    · exact interval _ _ _ (.inr (.inl ⟨he1, he2, _, hs1⟩))
    · exact pulse _ _ (.inr (.inl ⟨he1, he2, _, hs1⟩))
  case cfgWrite r d =>
    injection ht with ht
    subst ht
    rcases cfgWriteOp_cases r d s with ⟨h0, e⟩ | ⟨_, e⟩ | ⟨_, _, e⟩ <;> rw [e]
    · exact hcmd ⟨d, by rw [h0]⟩ _
    · exact clear _
    · rcases registerWrite_cases r d s with e | ⟨r', _, h1, h2, e⟩ <;> rw [e]
      · exact config
      · exact store _ _ h1 h2
  case reset => exact absurd rfl hreset
  all_goals injection ht with ht; subst ht
  case evPulse => exact pulse _ _ (.inl rfl)
  case evWd => exact interval _ _ _ (.inr (.inr rfl))
  case cfgRead => exact read _
  case lock => exact hlock (.inl rfl)
  case calFail => exact hcalF (.inl rfl)
  case calLoad => exact hcalL (.inr (.inl rfl))
  all_goals first | assumption | exact hfr _ | exact interval _ _ _ (.inl rfl)

end Sys2Proof.Machine
end

