-- ==== Sys2Proof/Laws/PerInstr.lean ====
section
/-! SUPPORT. One property of the encoding for every operation: its word fits its port (30_encoding.md R62 to R66). -/

namespace Sys2Proof.Laws.EncodingFits

/-- The word of `i` has no bit above the width of its port, and its bytes are as many as the port's word has. -/
def Statement (i : Instr) : Prop :=
  (encode i).bits < 2 ^ (encode i).port.width ∧ (bytesOfWord (encode i)).length = (encode i).port.numBytes

theorem length_bytesOfNat (n w : Nat) : (bytesOfNat n w).length = n := by
  induction n generalizing w with
  | zero => rfl
  | succ n ih => simp [bytesOfNat, ih]

/-- Every word of a port fits it. -/
theorem word_fits (w : PortWord) : w.bits < 2 ^ w.port.width ∧ (bytesOfWord w).length = w.port.numBytes :=
  ⟨by
    cases w with
    | edge w => exact w.isLt
    | event w => exact w.isLt
    | host w => exact w.isLt
    | seqTurn => exact Nat.one_pos
    | resetLine => exact Nat.one_pos,
    length_bytesOfNat _ _⟩

theorem edge (l : Bool) (ts : U32) : Statement (.edge l ts) := word_fits _
theorem evPulse (d : U32) : Statement (.evPulse d) := word_fits _
theorem evIvSyncGap (d : U32) : Statement (.evIvSyncGap d) := word_fits _
theorem evIvPulse (d : U32) : Statement (.evIvPulse d) := word_fits _
theorem evIvShort (d : U32) : Statement (.evIvShort d) := word_fits _
theorem evIvLong (d : U32) : Statement (.evIvLong d) := word_fits _
theorem evIvSync (d : U32) : Statement (.evIvSync d) := word_fits _
theorem evIvGap (d : U32) : Statement (.evIvGap d) := word_fits _
theorem evIvUnknown (d : U32) : Statement (.evIvUnknown d) := word_fits _
theorem evWd : Statement .evWd := word_fits _
theorem evReserved6 (d : U32) : Statement (.evReserved6 d) := word_fits _
theorem evReservedA (d : U32) : Statement (.evReservedA d) := word_fits _
theorem evReservedB (d : U32) : Statement (.evReservedB d) := word_fits _
theorem evReservedC (d : U32) : Statement (.evReservedC d) := word_fits _
theorem evReservedD (d : U32) : Statement (.evReservedD d) := word_fits _
theorem evReservedE (d : U32) : Statement (.evReservedE d) := word_fits _
theorem evReservedF (d : U32) : Statement (.evReservedF d) := word_fits _
theorem cfgWrite (r : Byte) (d : U32) : Statement (.cfgWrite r d) := word_fits _
theorem cfgRead (r : Byte) : Statement (.cfgRead r) := word_fits _
theorem lock : Statement .lock := word_fits _
theorem rxStart : Statement .rxStart := word_fits _
theorem rxCancel : Statement .rxCancel := word_fits _
theorem encode : Statement .encode := word_fits _
theorem txCancel : Statement .txCancel := word_fits _
theorem calLoad : Statement .calLoad := word_fits _
theorem calFail : Statement .calFail := word_fits _
theorem validate : Statement .validate := word_fits _
theorem frameV40 : Statement .frameV40 := word_fits _
theorem frameV48 : Statement .frameV48 := word_fits _
theorem frameV80 : Statement .frameV80 := word_fits _
theorem classify : Statement .classify := word_fits _
theorem cmdReserved (c : Byte) : Statement (.cmdReserved c) := word_fits _
theorem seqStep : Statement .seqStep := word_fits _
theorem reset : Statement .reset := word_fits _

end Sys2Proof.Laws.EncodingFits
end

