-- ==== Sys2Proof/Tests/Slice0.lean ====
section
/-! SUPPORT. The package's own tests: ill-formed terms, one word of every operation written out from the spec, and at most
two one-step tests per operation (expected values from 95_test_vectors.md, named by vector). The witnesses of the
statements are in Witness.lean. -/

namespace Sys2Proof.Tests

open Sys2Proof.Machine

/-! ## States -/

/-- The reference profile REF with 8 expected bits (95_test_vectors.md section 0). -/
def ref : Cfg :=
  { State.reset.cfg with
    nominal := { syncGap := 475, pulse := 425, short := 1006, long := 2000, sync := 8940, gap := 10200 }
    tol := { syncGap := 5, pulse := 5, short := 17, long := 17, sync := 6, gap := 6 }
    expectedBits := 8
    wdUs := 11000 }

/-- A Running session under REF. -/
def running : State := { State.reset with session := .running, cfg := ref }

/-- REF loaded, not locked. -/
def config : State := { State.reset with cfg := ref }

/-- A Halted session. -/
def halted : State := { State.reset with session := .halted, err := { State.reset.err with calFail := true } }

/-- Receiving, with the line at level 1 since time 1000. -/
def receiving : State :=
  { running with rx := { rxEn := true, prevTs := 1000, prevValid := true, wdArmed := true } }

/-- The decoder after one pulse (V-DEC-1). -/
def afterPulse : State :=
  { receiving with dec := { Decoder.resetState with phase := .expectInterval, sumPulse := 425, cntPulse := 1 } }

/-- The decoder after `P SG P SG P`. -/
def afterSyncGaps : State :=
  { receiving with
    dec :=
      { Decoder.resetState with phase := .expectInterval, syncCount := 2, sumPulse := 1275, cntPulse := 3 } }

/-- The decoder after `PREAMBLE BITS(0xA5)` (V-DEC-7). -/
def collected : State :=
  { receiving with
    dec :=
      { state := .dataCollect, phase := .expectPulse, syncCount := 0, bitCount := 8, code := 0xA5, sumPulse := 4675,
        cntPulse := 11, sumShort := 4024, cntShort := 4, sumLong := 8000, cntLong := 4 } }

/-- The decoder after `PREAMBLE BITS(0xA5) P`: the packet is complete but for its Gap. -/
def complete : State :=
  { collected with dec := { collected.dec with phase := .expectInterval, sumPulse := 5100, cntPulse := 12 } }

/-- A transmission at position `p`, frame `r` of `reps`, data bit `b` of `bits`. -/
def sending (p : SeqPos) (r reps b bits : BitVec 7) : State :=
  { running with
    lut := ref.nominal
    enc :=
      { encState := .busy, repIdx := r, step := p, bitIdx := b, sPkt := 0xA5000000000000000000, sBits := bits,
        sReps := reps } }

/-- Operands for ENCODE. -/
def toSend (bits reps : BitVec 7) : State :=
  { running with pkt := { Packet.zero with b0 := 0xA5 }, txBits := bits, txRepeats := reps }

/-- Operand registers. -/
def withArgs (s : State) (a0 a1 a2 a3 : U32) : State :=
  { s with args := { a0 := a0, a1 := a1, a2 := a2, a3 := a3, a4 := 0 } }

/-- A configured variant. -/
def variant (v : Variant) (m : ChkMode) : Cfg := { ref with variant := v, chkMode := m }

/-! ## Well-formedness -/

theorem test_illformed_cfgWrite_cmd : WellFormed (.cfgWrite 0x00#8 4#32) = false := by decide

theorem test_illformed_cmdReserved : WellFormed (.cmdReserved 1#8) = false ∧ WellFormed (.cmdReserved 10#8) = false :=
  by decide

theorem test_wellformed_boundaries :
    WellFormed (.cfgWrite 0x01#8 0#32) = true ∧ WellFormed (.cmdReserved 0#8) = true ∧
    WellFormed (.cmdReserved 11#8) = true ∧ WellFormed (.cmdReserved 255#8) = true := by decide

theorem test_frame_row_selection :
    SelectedBy .v40 .frameV40 = true ∧ SelectedBy .v48 .frameV40 = false ∧ SelectedBy .v80 .frameV48 = false := by
  decide

/-! ## Decoding: words written out bit by bit from 30_encoding.md R62, R63, R65, R66, R76 -/

theorem test_decode_edge :
    decode .v40 (.edge 0b1_11111111111111111111111100000000#33) = .edge true 0xFFFFFF00#32 ∧
    decode .v40 (.edge 0b0_00000000000000000000000010101001#33) = .edge false 169#32 := by decide

theorem test_decode_pulse_and_watchdog :
    decode .v40 (.event 0b1000_00000000000000000000000110101001#36) = .evPulse 425#32 ∧
    decode .v40 (.event 0b1001_00000000000000000000000000000001#36) = .evWd := by decide

theorem test_decode_intervals :
    decode .v40 (.event 0b0000_00000000000000000000000111011011#36) = .evIvSyncGap 475#32 ∧
    decode .v40 (.event 0b0001_00000000000000000000000110101001#36) = .evIvPulse 425#32 ∧
    decode .v40 (.event 0b0010_00000000000000000000001111101110#36) = .evIvShort 1006#32 ∧
    decode .v40 (.event 0b0011_00000000000000000000011111010000#36) = .evIvLong 2000#32 ∧
    decode .v40 (.event 0b0100_00000000000000000010001011101100#36) = .evIvSync 8940#32 ∧
    decode .v40 (.event 0b0101_00000000000000000010011111011000#36) = .evIvGap 10200#32 ∧
    decode .v40 (.event 0b0111_00000000000000000000001001011000#36) = .evIvUnknown 600#32 := by decide

theorem test_decode_reserved_events :
    decode .v40 (.event 0b0110_00000000000000000000000000000001#36) = .evReserved6 1#32 ∧
    decode .v40 (.event 0b1010_00000000000000000000000000000001#36) = .evReservedA 1#32 ∧
    decode .v40 (.event 0b1011_00000000000000000000000000000001#36) = .evReservedB 1#32 ∧
    decode .v40 (.event 0b1100_00000000000000000000000000000001#36) = .evReservedC 1#32 ∧
    decode .v40 (.event 0b1101_00000000000000000000000000000001#36) = .evReservedD 1#32 ∧
    decode .v40 (.event 0b1110_00000000000000000000000000000001#36) = .evReservedE 1#32 ∧
    decode .v40 (.event 0b1111_00000000000000000000000000000001#36) = .evReservedF 1#32 := by decide

theorem test_decode_register_access :
    decode .v40 (.host 0b1_00010000_00000000000000000000000111011011#41) = .cfgWrite 0x10#8 475#32 ∧
    decode .v40 (.host 0b0_00000101_00000000000000000000000000000000#41) = .cfgRead 0x05#8 := by decide

theorem test_decode_commands :
    decode .v40 (.host 0b1_00000000_000000000000000000000000_00000001#41) = .lock ∧
    decode .v40 (.host 0b1_00000000_000000000000000000000000_00000010#41) = .rxStart ∧
    decode .v40 (.host 0b1_00000000_000000000000000000000000_00000011#41) = .rxCancel ∧
    decode .v40 (.host 0b1_00000000_000000000000000000000000_00000100#41) = .encode ∧
    decode .v40 (.host 0b1_00000000_000000000000000000000000_00000101#41) = .txCancel ∧
    decode .v40 (.host 0b1_00000000_000000000000000000000000_00000110#41) = .calLoad ∧
    decode .v40 (.host 0b1_00000000_000000000000000000000000_00000111#41) = .calFail ∧
    decode .v40 (.host 0b1_00000000_000000000000000000000000_00001000#41) = .validate ∧
    decode .v40 (.host 0b1_00000000_000000000000000000000000_00001001#41) = .frameV40 ∧
    decode .v48 (.host 0b1_00000000_000000000000000000000000_00001001#41) = .frameV48 ∧
    decode .v80 (.host 0b1_00000000_000000000000000000000000_00001001#41) = .frameV80 ∧
    decode .v40 (.host 0b1_00000000_111111111111111111111111_00001010#41) = .classify ∧
    decode .v40 (.host 0b1_00000000_000000000000000000000000_00000000#41) = .cmdReserved 0#8 ∧
    decode .v40 (.host 0b1_00000000_000000000000000000000000_00001011#41) = .cmdReserved 11#8 := by decide

theorem test_decode_no_word : decode .v40 .seqTurn = .seqStep ∧ decode .v40 .resetLine = .reset := by decide

theorem test_decodeBytes_refuses :
    decodeBytes .v40 .event [0, 0, 0, 0] = .error (.wrongLength 4) ∧
    decodeBytes .v40 .edge [0, 0, 0, 0, 2] = .error .bitsAboveWidth ∧
    decodeBytes .v40 .host [4, 0, 0, 0, 0, 1] = .ok .encode := by decide

theorem test_decodeTableWord :
    decodeTableWord 33 0x1000003E8 = some (.edge true 1000#32) ∧ decodeTableWord 40 0x9000001DB = some .evWd ∧
    decodeTableWord 48 0x10000000009 = some .frameV40 ∧ decodeTableWord 40 0x1000000000 = none ∧
    decodeTableWord 0 0 = none := by decide

/-! ## One step of each operation -/

/-- V-EDGE-1. -/
theorem test_edge_ends_a_pulse :
    ∃ t, exec (.edge false 1425#32) receiving = .next t ∧ t.dec = afterPulse.dec ∧ t.rx.prevTs = 1425#32 :=
  ⟨_, rfl, by decide⟩

/-- V-EDGE-1, the timestamp wrapping. -/
theorem test_edge_wraps :
    ∃ t, exec (.edge true 0xDB#32) { afterPulse with rx := { afterPulse.rx with prevTs := 0xFFFFFF00#32 } } = .next t ∧
      t.dec.syncCount = 1#2 ∧ t.dec.phase = .expectPulse :=
  ⟨_, rfl, by decide⟩

/-- V-DEC-1 and V-DEC-12. -/
theorem test_evPulse :
    (∃ t, exec (.evPulse 425#32) receiving = .next t ∧ t.dec = afterPulse.dec) ∧
    (∃ t, exec (.evPulse 425#32) afterPulse = .next t ∧ t.dec = .resetState ∧ t.cnt.viol = 1#32) :=
  ⟨⟨_, rfl, by decide⟩, ⟨_, rfl, by decide⟩⟩

/-- V-DEC-2 (its first gap) and V-DEC-5. -/
theorem test_evIvSyncGap :
    (∃ t, exec (.evIvSyncGap 475#32) afterPulse = .next t ∧ t.dec.syncCount = 1#2 ∧ t.dec.phase = .expectPulse) ∧
    (∃ t, exec (.evIvSyncGap 475#32) afterSyncGaps = .next t ∧ t.cnt.viol = 1#32 ∧ t.dec = .resetState) :=
  ⟨⟨_, rfl, by decide⟩, ⟨_, rfl, by decide⟩⟩

/-- V-DEC-3 and V-DEC-6. -/
theorem test_evIvSync :
    (∃ t, exec (.evIvSync 8940#32) afterSyncGaps = .next t ∧ t.dec.dbgWord = 0x0001#32 ∧ t.dec.sumPulse = 1275#40) ∧
    (∃ t, exec (.evIvSync 8940#32) afterPulse = .next t ∧ t.cnt.viol = 1#32 ∧ t.dec = .resetState) :=
  ⟨⟨_, rfl, by decide⟩, ⟨_, rfl, by decide⟩⟩

/-- V-DEC-25's rule on one bit more: the code shifts, the metric takes the duration. -/
theorem test_evIvShort :
    ∃ t, exec (.evIvShort 1006#32) complete = .next t ∧ t.dec.code = 0x14A#80 ∧ t.dec.bitCount = 9#8 ∧
      t.dec.sumShort = 5030#40 ∧ t.dec.cntLong = 4#8 :=
  ⟨_, rfl, by decide⟩

theorem test_evIvLong :
    ∃ t, exec (.evIvLong 2000#32) complete = .next t ∧ t.dec.code = 0x14B#80 ∧ t.dec.sumLong = 10000#40 ∧
      t.dec.cntShort = 4#8 :=
  ⟨_, rfl, by decide⟩

/-- V-DEC-8. -/
theorem test_evIvGap_accepts :
    ∃ t, exec (.evIvGap 10200#32) complete = .next t ∧
      t.out.map (fun r => (r.code, r.bits, r.avgPulse, r.avgShort, r.avgLong)) =
        [(0xA5#80, 8#8, 425#32, 1006#32, 2000#32)] ∧
      t.outReg.pv = { PvResult.zero with err := 3#3 } ∧ t.cnt.pkt = 1#32 :=
  ⟨_, rfl, by decide⟩

/-- V-DEC-20a's rule: one bit short. -/
theorem test_evIvGap_wrong_length :
    ∃ t, exec (.evIvGap 10200#32) { complete with cfg := { ref with expectedBits := 9 } } = .next t ∧
      t.cnt.lenMiss = 1#32 ∧ t.cnt.viol = 0#32 ∧ t.out = [] ∧ t.dec = .resetState :=
  ⟨_, rfl, by decide⟩

/-- V-DEC-9 and V-DEC-10. -/
theorem test_evWd :
    (∃ t, exec .evWd complete = .next t ∧ t.out.length = 1 ∧ t.rx.wdArmed = false) ∧
    (∃ t, exec .evWd collected = .next t ∧ t.out = [] ∧ t.cnt.viol = 1#32) :=
  ⟨⟨_, rfl, by decide⟩, ⟨_, rfl, by decide⟩⟩

/-- V-DEC-33 and V-DEC-34. -/
theorem test_evIvPulse_and_unknown :
    (∃ t, exec (.evIvPulse 425#32) afterPulse = .next t ∧ t.cnt.viol = 1#32 ∧ t.dec = .resetState) ∧
    (∃ t, exec (.evIvUnknown 600#32) complete = .next t ∧ t.cnt.viol = 1#32 ∧ t.dec = .resetState) :=
  ⟨⟨_, rfl, by decide⟩, ⟨_, rfl, by decide⟩⟩

/-- 30_encoding.md R76: an interval of kind Unknown. -/
theorem test_evReserved :
    (∃ t, exec (.evReserved6 475#32) afterPulse = .next t ∧ t.cnt.viol = 1#32) ∧
    (∃ t, exec (.evReservedA 475#32) afterPulse = .next t ∧ t.cnt.viol = 1#32) ∧
    (∃ t, exec (.evReservedB 475#32) afterPulse = .next t ∧ t.cnt.viol = 1#32) ∧
    (∃ t, exec (.evReservedC 475#32) afterPulse = .next t ∧ t.cnt.viol = 1#32) ∧
    (∃ t, exec (.evReservedD 475#32) afterPulse = .next t ∧ t.cnt.viol = 1#32) ∧
    (∃ t, exec (.evReservedE 475#32) afterPulse = .next t ∧ t.cnt.viol = 1#32) ∧
    (∃ t, exec (.evReservedF 475#32) afterPulse = .next t ∧ t.cnt.viol = 1#32) :=
  ⟨⟨_, rfl, by decide⟩, ⟨_, rfl, by decide⟩, ⟨_, rfl, by decide⟩, ⟨_, rfl, by decide⟩,
    ⟨_, rfl, by decide⟩, ⟨_, rfl, by decide⟩, ⟨_, rfl, by decide⟩⟩

/-- 45_host_control.md R195's example. -/
theorem test_cfgWrite :
    (∃ t, exec (.cfgWrite 0x1A#8 17#32) { config with cfg := { ref with tol := .all 0 } } = .next t ∧
      t.cfg.tol.short = 17#7 ∧ (readNumber 0x22 t, readNumber 0x2A t) = (835#32, 1177#32)) ∧
    (∃ t, exec (.cfgWrite 0x1A#8 16#32) running = .next t ∧ t.cfg = ref ∧ t.err.cfgErr = true) :=
  ⟨⟨_, rfl, by decide⟩, ⟨_, rfl, by decide⟩⟩

/-- 45_host_control.md R196's example. -/
theorem test_cfgRead :
    ∃ t, exec (.cfgRead 0x05#8) State.reset = .next t ∧ t.io.rdata = some 0x00010000#32 := ⟨_, rfl, by decide⟩

/-- 45_host_control.md R198's example. -/
theorem test_lock :
    (∃ t, exec .lock State.reset = .next t ∧ t.session = .config ∧ t.err.cfgErr = true) ∧
    (∃ t, exec .lock config = .next t ∧ t.session = .running ∧ t.err.cfgErr = false) :=
  ⟨⟨_, rfl, by decide⟩, ⟨_, rfl, by decide⟩⟩

/-- 45_host_control.md R199's example. -/
theorem test_rxStart :
    ∃ t, exec .rxStart running = .next t ∧ t.statusWord = 0b00000101#32 := ⟨_, rfl, by decide⟩

theorem test_rxCancel :
    ∃ t, exec .rxCancel complete = .next t ∧ t.statusWord = 0b00000001#32 ∧ t.cnt = complete.cnt :=
  ⟨_, rfl, by decide⟩

/-- V-ENC-4: 5 bits accepted, 4 refused. -/
theorem test_encode :
    (∃ t, exec .encode (toSend 5 1) = .next t ∧ t.lut = ref.nominal ∧ t.statusWord = 0b00001001#32 ∧
      t.enc.sPkt = 0xA5000000000000000000#80) ∧
    (∃ t, exec .encode (toSend 4 1) = .next t ∧ t.err.cfgErr = true ∧ t.lut = .all 0 ∧ t.enc.encState = .idle) :=
  ⟨⟨_, rfl, by decide⟩, ⟨_, rfl, by decide⟩⟩

theorem test_txCancel :
    ∃ t, exec .txCancel { sending .bg 1 2 3 8 with txLevel := true } = .next t ∧ t.enc.dbgWord = 0#32 ∧ t.txLevel = false ∧
      t.io.txDone = false ∧ t.enc.sBits = 8#7 :=
  ⟨_, rfl, by decide⟩

/-- V-CAL-1 and V-CAL-9. -/
theorem test_calLoad :
    (∃ t, exec .calLoad (withArgs State.reset 106250 100 425 0) = .next t ∧ t.scale = 0x00014000#32) ∧
    (∃ t, exec .calLoad (withArgs State.reset 131072 1 1 0) = .next t ∧ t.err.word = 1#32 ∧ t.session = .halted ∧
      t.scale = 0x00010000#32) :=
  ⟨⟨_, rfl, by decide⟩, ⟨_, rfl, by decide⟩⟩

/-- V-CAL-12 and V-CAL-14. -/
theorem test_calFail :
    (∃ t, exec .calFail State.reset = .next t ∧ t.err.word = 1#32 ∧ t.statusWord = 2#32 ∧ t.io.fatal = true) ∧
    (∃ t, exec .calFail halted = .next t ∧ t.err.word = 3#32 ∧ t.io.fatal = false) :=
  ⟨⟨_, rfl, by decide⟩, ⟨_, rfl, by decide⟩⟩

/-- V-PV-1 and V-PV-2. -/
theorem test_validate :
    (∃ t, exec .validate (withArgs running 0x22FA05C5 0xA4 0 40) = .next t ∧
      t.valPv = { valid := true, err := 0, f0 := 0xA4, f1 := 0x2, f2 := 0x2FA, f3 := 0x05, f4 := 0xC5 } ∧
      t.cnt.chkFail = 0#32) ∧
    (∃ t, exec .validate (withArgs running 0x22FA0515 0xA4 0 40) = .next t ∧ t.valPv.err = 4#3 ∧
      t.cnt.chkFail = 1#32 ∧ t.err.word = 4#32) :=
  ⟨⟨_, rfl, by decide⟩, ⟨_, rfl, by decide⟩⟩

/-- 44_validator.md R182's example. -/
theorem test_frameV40 :
    ∃ t, exec .frameV40 (withArgs running 0xA4 0x2 0x2FA 0x05) = .next t ∧
      t.pkt.bytes = [0xA4, 0x22, 0xFA, 0x05, 0xC5, 0, 0, 0, 0, 0] ∧ t.txBits = 40#7 :=
  ⟨_, rfl, by decide⟩

/-- 44_validator.md R183's example. -/
theorem test_frameV48 :
    ∃ t, exec .frameV48 (withArgs { running with cfg := { ref with marker4 := 0xAA, marker5 := 0x55 } }
        0x5C 0x123 0x456 0) = .next t ∧
      t.pkt.bytes = [0x5C, 0x12, 0x34, 0x56, 0xAA, 0x55, 0, 0, 0, 0] ∧ t.txBits = 48#7 :=
  ⟨_, rfl, by decide⟩

/-- 44_validator.md R184's example. -/
theorem test_frameV80 :
    ∃ t, exec .frameV80 (withArgs running 0x9 0x3 0x01020304 0x05060708) = .next t ∧
      t.pkt.bytes = [0x93, 1, 2, 3, 4, 5, 6, 7, 8, 0xB7] ∧ t.txBits = 80#7 :=
  ⟨_, rfl, by decide⟩

/-- V-CLS-1. -/
theorem test_classify :
    (∃ t, exec .classify (withArgs running 11000 0 0 0) = .next t ∧ t.res0 = 7#3) ∧
    (∃ t, exec .classify (withArgs running 11001 0 0 0) = .next t ∧ t.res0 = 5#3) :=
  ⟨⟨_, rfl, by decide⟩, ⟨_, rfl, by decide⟩⟩

theorem test_cmdReserved :
    ∃ t, exec (.cmdReserved 11#8) running = .next t ∧ t.err.word = 2#32 ∧ t.session = .running :=
  ⟨_, rfl, by decide⟩

/-- V-ENC-3's rule on bit 0 of `0xA5`, a one; and the last pair of the last frame. -/
theorem test_seqStep :
    (∃ t, exec .seqStep (sending .bg 0 1 0 8) = .next t ∧ t.txs = [⟨false, 2000#32⟩] ∧
      t.enc.dbgWord = 0x00000016#32) ∧
    (∃ t, exec .seqStep (sending .tg 0 1 7 8) = .next t ∧ t.txs = [⟨false, 10200#32⟩] ∧ t.enc.dbgWord = 0#32 ∧
      t.io.txDone = true ∧ t.enc.encState = .idle) :=
  ⟨⟨_, rfl, by decide⟩, ⟨_, rfl, by decide⟩⟩

/-- 30_encoding.md R64, a pulse of 425 µs, and 41_encoder.md R107: the pair goes to `TXS` and the level stays. -/
theorem test_segment_word :
    (⟨true, 425#32⟩ : Segment).word = 0b1_00000000000000000000000110101001#33 ∧
    Segment.ofWord 0b0_00000000000000000010011111011000#33 = ⟨false, 10200#32⟩ ∧
    ∃ t, exec .seqStep (sending .p1 0 1 0 8) = .next t ∧ t.txs = [⟨true, 425#32⟩] ∧ t.txLevel = false :=
  ⟨by decide, by decide, _, rfl, by decide⟩

theorem test_reset :
    ∃ t, exec .reset (sending .bg 1 2 3 8) = .next t ∧ t = State.reset := ⟨_, rfl, by decide⟩

/-- 44_validator.md R181's examples for the default function. -/
theorem test_crc8 :
    crc8Default [0x31, 0x32, 0x33, 0x34, 0x35, 0x36, 0x37, 0x38, 0x39] 0x31 0x00 = 0xA2#8 ∧
    crc8Default [0x31, 0x32, 0x33, 0x34, 0x35, 0x36, 0x37, 0x38, 0x39] 0x07 0x00 = 0xF4#8 := by decide +kernel

/-- V-ENC-1. -/
theorem test_scaled :
    scaled 0x00014000#32 1000#32 = 1250 ∧ scaled 0x00014000#32 1006#32 = 1258 ∧ scaled 0x00000001#32 32767#32 = 0 ∧
    scaled 0xFFFFFFFF#32 65537#32 = 4295032831 := by decide

/-- V-CLS-2. -/
theorem test_bounds :
    (bandLo 1000#32 99#7, bandHi 1000#32 99#7) = (10#32, 1990#32) ∧
    (bandLo 0xFFFFFFFF#32 50#7, bandHi 0xFFFFFFFF#32 50#7) = (2147483648#32, 0xFFFFFFFF#32) := by decide

/-- The host's table question, as the first operation after reset. -/
theorem test_withFetchWord :
    ∃ t, step (State.reset.withFetchWord 48 0x10000000007) = .next t ∧ t.session = .halted ∧ t.io.fatal = true ∧
      t.pending = [] :=
  ⟨_, rfl, by decide⟩

end Sys2Proof.Tests
end

