-- ==== Sys2Proof/Tests/Witness.lean ====
section
/-! SUPPORT. For every statement with hypotheses, a concrete state and operands that meet them, clause by clause, at
the boundary values of the clauses. -/

namespace Sys2Proof.Tests

open Sys2Proof.Machine

/-! ## States -/

/-- One input to come. -/
def withInput (s : State) (delay : Nat) (w : PortWord) : State :=
  { s with pending := [{ delay := delay, word := w }] }

/-- Receiving a complete packet while a transmission stands at a data gap; both channels at work. -/
def bothChannels : State :=
  { complete with
    lut := ref.nominal
    enc := (sending .bg 1 2 7 8).enc
    txs := [⟨true, 425#32⟩] }

/-- A profile at the limits: every band of the watchdog length or below, the widest tolerance that keeps the bands of
REF apart. -/
def limits : Cfg := { ref with wdUs := 10812 }

/-- A LUT at the upper ends of the bands of REF (V-CLS bounds), the pulse as long as the watchdog allows. -/
def lutAtHigh : PerKind U32 :=
  { syncGap := 498, pulse := 10812, short := 1177, long := 2340, sync := 9476, gap := 10812 }

/-- A freshly configured session about to hear one ideal frame of the packet `0xA5`. -/
def hearing : State :=
  { running with
    cfg := limits
    lut := lutAtHigh
    enc := { running.enc with sPkt := 0xA5000000000000000000 }
    pending :=
      { delay := 0, word := encode .rxStart } :: idealEdges 7 (plan lutAtHigh 0xA5000000000000000000 8 1) }

/-! ## Encoding and the step -/

theorem test_witness_DecodeEncodeRoundTrip :
    (WellFormed (.cfgWrite 0x01#8 0xFFFFFFFF#32) = true ∧ SelectedBy .v40 (.cfgWrite 0x01#8 0xFFFFFFFF#32) = true) ∧
    (WellFormed (.cmdReserved 0#8) = true ∧ SelectedBy .v48 (.cmdReserved 0#8) = true) ∧
    (WellFormed (.cmdReserved 11#8) = true ∧ SelectedBy .v48 (.cmdReserved 11#8) = true) ∧
    (WellFormed (.cmdReserved 255#8) = true ∧ SelectedBy .v80 (.cmdReserved 255#8) = true) ∧
    (WellFormed .frameV80 = true ∧ SelectedBy .v80 .frameV80 = true) := by decide

/-- An edge exactly `WD_US` after the last one is taken: the watchdog is strict. -/
theorem test_witness_StepRunsDecodedOperation :
    (withInput complete 11000 (.edge 0x1FFFFFFFF#33)).pending =
      { delay := 11000, word := .edge 0x1FFFFFFFF#33 } :: [] ∧
    ¬((withInput complete 11000 (.edge 0x1FFFFFFFF#33)).wdReady = true ∧ ref.wdUs.toNat < 0 + 11000) := by
  decide

/-- One µs later the watchdog goes first. -/
theorem test_witness_WatchdogGoesBeforeALateInput :
    (withInput complete 11001 (.edge 0#33)).session = .running ∧ complete.rx.rxEn = true ∧
    complete.rx.wdArmed = true ∧ complete.dec.state = .dataCollect ∧
    complete.dec.bitCount.toNat = ref.expectedBits.toNat ∧ ref.wdUs.toNat < complete.idle + 11001 := by decide

theorem test_witness_StepWithNoInput :
    ((sending .p1 0 1 0 5).pending = [] ∧ (sending .p1 0 1 0 5).enc.encState = .busy) ∧
    (complete.pending = [] ∧ complete.enc.encState = .idle ∧ complete.wdReady = true) ∧
    (receiving.pending = [] ∧ receiving.enc.encState = .idle ∧ receiving.wdReady = false) := by decide

/-! ## Invariants -/

theorem bothChannels_decInv : DecInv bothChannels.dec :=
  ⟨by decide, by decide, by decide, by decide, by decide, by decide, by decide, by decide,
    by decide⟩

theorem bothChannels_cfgInv : CfgInv bothChannels :=
  ⟨fun k => by cases k <;> decide, by decide, by decide, fun _ => ⟨fun k => by cases k <;> decide, by decide⟩,
    by unfold Deployment.Legal; decide⟩

theorem bothChannels_encInv : EncInv bothChannels :=
  ⟨by decide, by decide, by decide, by decide, fun _ k => by cases k <;> decide, by decide, by decide, by decide⟩

/-- A state in the middle of both channels' work satisfies the invariant. -/
theorem bothChannels_inv : Inv bothChannels :=
  ⟨bothChannels_decInv, bothChannels_cfgInv, ⟨by decide, by decide, by decide, by decide, by decide⟩,
    bothChannels_encInv, ⟨by decide, by decide, (fun r h => by cases h), by decide⟩⟩

/-- With an input to come, the Gap that ends the packet. -/
theorem test_witness_EveryStepKeepsTheInvariant :
    Inv (withInput bothChannels 10200 (.event 0x5000027D8#36)) ∧
    ∃ t, step (withInput bothChannels 10200 (.event 0x5000027D8#36)) = .next t ∧ t.out.length = 1 :=
  ⟨⟨bothChannels_inv.dec, ⟨bothChannels_inv.cfg.1, bothChannels_inv.cfg.2, bothChannels_inv.cfg.3,
      bothChannels_inv.cfg.4, bothChannels_inv.cfg.5⟩, ⟨by decide, by decide, by decide, by decide, by decide⟩,
      ⟨by decide, by decide, by decide, by decide, fun _ k => by cases k <;> decide, by decide, by decide, by decide⟩,
      ⟨by decide, by decide, (fun r h => by cases h), by decide⟩⟩,
    ⟨_, rfl, by decide⟩⟩

theorem test_witness_AcceptanceIsExact :
    Inv bothChannels ∧ bothChannels.dec.state = .dataCollect ∧ bothChannels.dec.phase = .expectInterval ∧
    bothChannels.dec.bitCount.toNat = bothChannels.cfg.expectedBits.toNat :=
  ⟨bothChannels_inv, by decide, by decide, by decide⟩

theorem test_witness_ConfigurationFrozenAfterLock :
    (∃ t, exec (.cfgWrite 0x10#8 7#32) running = .next t) ∧ running.session ≠ .config ∧
    (∃ t, exec .calFail halted = .next t) ∧ halted.session ≠ .config := ⟨⟨_, rfl⟩, by decide, ⟨_, rfl⟩, by decide⟩

theorem test_witness_SessionPhaseTransitions :
    (∃ t, exec (.cfgWrite 0x00#8 1#32) config = .next t ∧ t.session = .running) ∧
    (∃ t, exec .calLoad config = .next t ∧ t.session = .halted) ∧
    (∃ t, exec .reset halted = .next t ∧ t.session = .config) :=
  ⟨⟨_, rfl, by decide⟩, ⟨_, rfl, by decide⟩, ⟨_, rfl, by decide⟩⟩

theorem test_witness_HistoryOnlyGrows :
    ∃ t, exec (.evIvGap 10200#32) complete = .next t ∧ (Instr.evIvGap 10200#32) ≠ .reset := ⟨_, rfl, by decide⟩

theorem test_witness_ChannelsCommute :
    isReceive (.edge true 0#32) = true ∧ isReceive .evWd = true ∧ isReceive (.evReservedF 0#32) = true := by decide

theorem test_witness_ReceiveIgnoresTransmitState :
    isReceive (.evPulse 425#32) = true ∧ isReceive (.evIvGap 0#32) = true := by decide

/-! ## Classifier and front end -/

/-- The widest and the narrowest tolerance, and the greatest nominal. -/
theorem test_witness_BandBoundsAreExact :
    (({ ref with tol := .all 99 } : Cfg).tol.get .gap).toNat ≤ 99 ∧
    (({ ref with tol := .all 0 } : Cfg).tol.get .pulse).toNat ≤ 99 ∧
    (({ ref with nominal := .all 0xFFFFFFFF, tol := .all 99 } : Cfg).hi .short).toNat = 2 ^ 32 - 1 := by
  decide

/-- `WD_US` itself goes to the table, one more is forced. -/
theorem test_witness_ClassifyIsForceThenFirstMatch :
    (ref.wdUs.toNat < (11001#32).toNat ∧ ref.classify 11001#32 = some .gap) ∧
    ((11000#32).toNat ≤ ref.wdUs.toNat ∧ ref.classify 11000#32 = none) ∧
    ((835#32).toNat ≤ ref.wdUs.toNat ∧ ref.classify 835#32 = some .short) := by decide

theorem ref_bandsDisjoint : ref.BandsDisjoint := by
  intro j k
  cases j <;> cases k <;> decide

theorem test_witness_DisjointBandsClassifyByBand :
    ref.BandsDisjoint ∧ (1177#32).toNat ≤ ref.wdUs.toNat ∧ ref.classify 1177#32 = some .short ∧
    ref.classify 1178#32 = none := ⟨ref_bandsDisjoint, by decide⟩

theorem test_witness_ClassifyCommandWritesRes0 :
    config.session ≠ .halted ∧ running.session ≠ .halted ∧ halted.session = .halted := by decide

theorem test_witness_EdgeDroppedOrRecorded :
    (config.session ≠ .running ∨ config.rx.rxEn = false) ∧ (running.session ≠ .running ∨ running.rx.rxEn = false) ∧
    (let s := { receiving with rx := { receiving.rx with prevValid := false } }
     s.session = .running ∧ s.rx.rxEn = true ∧ s.rx.prevValid = false) := by decide

theorem test_witness_EdgeMeasuresAndDecodes :
    receiving.session = .running ∧ receiving.rx.rxEn = true ∧ receiving.rx.prevValid = true := by decide

/-! ## Decoder -/

/-- The pulse sum about to wrap, its count saturated. -/
theorem test_witness_PulseJoinsTheMetric :
    receiving.dec.phase = .expectPulse ∧ afterPulse.dec.phase = .expectInterval ∧
    (let d : Decoder := { collected.dec with sumPulse := 0xFFFFFFFFFF, cntPulse := 255 }
     d.phase = .expectPulse) := by decide

theorem test_witness_IntervalOutOfTurnIsAViolation :
    collected.dec.phase = .expectPulse ∧ (intervalKind (.evIvShort 1006#32)).isSome = true ∧
    (intervalKind (.evReserved6 0#32)).isSome = true := by decide

theorem test_witness_SyncGapCountsToTwo :
    (afterPulse.dec.state = .syncWait ∧ afterPulse.dec.phase = .expectInterval ∧
      afterPulse.dec.syncCount.toNat < 2) ∧
    (afterSyncGaps.dec.state = .syncWait ∧ afterSyncGaps.dec.phase = .expectInterval ∧
      afterSyncGaps.dec.syncCount.toNat = 2) := by decide

theorem test_witness_SyncCompletesThePreamble :
    (afterSyncGaps.dec.state = .syncWait ∧ afterSyncGaps.dec.phase = .expectInterval ∧
      afterSyncGaps.dec.syncCount.toNat = 2) ∧
    (afterPulse.dec.state = .syncWait ∧ afterPulse.dec.phase = .expectInterval ∧
      afterPulse.dec.syncCount.toNat ≠ 2) := by decide

/-- Also with the bit count saturated. -/
theorem test_witness_ShortAndLongShiftABit :
    (complete.dec.state = .dataCollect ∧ complete.dec.phase = .expectInterval) ∧
    (let d : Decoder := { complete.dec with bitCount := 255, code := BitVec.allOnes 80 }
     d.state = .dataCollect ∧ d.phase = .expectInterval) := by decide

theorem test_witness_GapAcceptsTheExpectedLength :
    complete.dec.state = .dataCollect ∧ complete.dec.phase = .expectInterval ∧
    complete.dec.bitCount.toNat = complete.cfg.expectedBits.toNat := by decide

/-- One bit less and one bit more than expected. -/
theorem test_witness_GapOfWrongLengthIsDiscarded :
    (let s := { complete with cfg := { ref with expectedBits := 7 } }
     s.dec.state = .dataCollect ∧ s.dec.phase = .expectInterval ∧
      s.dec.bitCount.toNat ≠ s.cfg.expectedBits.toNat) ∧
    (let s := { complete with cfg := { ref with expectedBits := 9 } }
     s.dec.state = .dataCollect ∧ s.dec.phase = .expectInterval ∧
      s.dec.bitCount.toNat ≠ s.cfg.expectedBits.toNat) := by decide

theorem test_witness_EveryOtherIntervalIsAViolation :
    (intervalKind (.evIvPulse 425#32) = some (some .pulse) ∧ inTable .dataCollect (some .pulse) = false) ∧
    (intervalKind (.evIvUnknown 0#32) = some none ∧ inTable .syncWait none = false) ∧
    (intervalKind (.evIvGap 0#32) = some (some .gap) ∧ inTable .syncWait (some .gap) = false) ∧
    (intervalKind (.evIvSync 0#32) = some (some .sync) ∧ inTable .dataCollect (some .sync) = false) ∧
    afterPulse.dec.phase = .expectInterval ∧ afterPulse.dec.state = .syncWait ∧
    complete.dec.phase = .expectInterval ∧ complete.dec.state = .dataCollect := by decide

/-- A violation, then a preamble that reaches DataCollect. -/
theorem test_witness_OnlyACompletePreambleIsAccepted :
    receiving.dec = .resetState ∧
    (let is := [.evIvGap 0#32] ++ preambleEvents 425 475 425 475 425 8940
     (∀ i ∈ is, isEvent i = true) ∧
      ∃ t, execAll is receiving = .next t ∧ t.dec.state = .dataCollect ∧ t.cnt.viol = 1) :=
  ⟨by decide, by decide, _, rfl, by decide⟩

/-- The longest packet. -/
theorem test_witness_BitsAccumulateMostSignificantFirst :
    (let d : Decoder := { collected.dec with bitCount := 0, code := 0 }
     d.state = .dataCollect ∧ d.phase = .expectPulse ∧ d.bitCount = 0 ∧ d.code = 0) ∧
    (List.replicate 80 true).length ≤ 80 ∧ bitsToNat (List.replicate 80 true) = 2 ^ 80 - 1 := by decide +kernel

theorem test_witness_PulseViolationCostsOneMore :
    afterPulse.dec.phase = .expectInterval ∧ (intervalKind (.evIvSyncGap 475#32)).isSome = true := by decide

/-! ## Validator and framer -/

/-- 39 and 41 bits against 40. -/
theorem test_witness_ValidateRefusesOtherLengths :
    (39#8).toNat ≠ (variant .v40 .additive).variant.bits ∧ (41#8).toNat ≠ (variant .v40 .additive).variant.bits := by
  decide

theorem test_witness_ValidateV40FieldsAndCheck :
    (variant .v40 .crc8).variant = .v40 ∧
    (validateResult .default (variant .v40 .crc8) 0xA422FA05C5 40).valid = true := by decide

theorem test_witness_ValidateV48FieldsAndMarkers :
    (variant .v48 .additive).variant = .v48 ∧
    (validateResult .default { variant .v48 .additive with marker4 := 0xAA, marker5 := 0x55 } 0x5C123456AA55 48).valid =
      true := by decide

theorem test_witness_ValidateV80FieldsAndCheck :
    (variant .v80 .additive).variant = .v80 ∧ (variant .v80 .additive).chkMode = .additive ∧
    (variant .v80 .crc8).variant = .v80 ∧ (variant .v80 .crc8).chkMode = .crc8 ∧
    (validateResult .default (variant .v80 .additive) 0x930102030405060708B7 80).valid = true := by decide

theorem test_witness_SingleBitFlipFailsTheAdditiveCheck :
    ((variant .v40 .additive).variant = .v40 ∧ 39 < 40 ∧
      (validateResult .default (variant .v40 .additive) 0xA422FA05C5 (BitVec.ofNat 8 40)).valid = true) ∧
    ((variant .v80 .additive).variant = .v80 ∧ (variant .v80 .additive).chkMode = .additive ∧ 79 < 80 ∧
      (validateResult .default (variant .v80 .additive) 0x930102030405060708B7 (BitVec.ofNat 8 80)).valid = true) := by
  decide

theorem test_witness_ValidateCommandReports : config.session ≠ .halted ∧ halted.session = .halted := by decide

theorem test_witness_FrameBuildsThePacket :
    running.session ≠ .halted ∧ halted.session = .halted ∧ (variant .v80 .additive).chkMode = .additive ∧
    (variant .v80 .crc8).chkMode = .crc8 := by decide

theorem test_witness_FramedPacketValidates :
    (variant .v40 .additive).variant = .v40 ∧ (variant .v48 .additive).variant = .v48 ∧
    (variant .v80 .crc8).variant = .v80 := by decide

/-! ## Encoder -/

/-- The least and the greatest operands. -/
theorem test_witness_EncodeLatchesAndStarts :
    (toSend 5 1).session = .running ∧ (toSend 5 1).enc.encState = .idle ∧
    ((toSend 5 1).deploy.bitsMin ≤ (toSend 5 1).txBits.toNat ∧ (toSend 64 99).txBits.toNat ≤ 64 ∧
      (toSend 5 1).deploy.repeatsMin ≤ (toSend 5 1).txRepeats.toNat ∧
      (toSend 64 99).txRepeats.toNat ≤ (toSend 64 99).deploy.repeatsMax) ∧
    ∀ k, 1 ≤ scaled (toSend 5 1).scale ((toSend 5 1).cfg.nominal.get k) ∧
      scaled (toSend 5 1).scale ((toSend 5 1).cfg.nominal.get k) < 2 ^ 32 :=
  ⟨by decide, by decide, by decide, fun k => by cases k <;> decide⟩

/-- Each refusing condition, one past its limit. -/
theorem test_witness_EncodeRefusesBadOperands :
    config.session ≠ .running ∧ (sending .p1 0 1 0 5).enc.encState = .busy ∧
    (toSend 4 1).txBits.toNat < (toSend 4 1).deploy.bitsMin ∧
    (toSend 65 1).deploy.bitsMax < (toSend 65 1).txBits.toNat ∧
    (toSend 5 0).txRepeats.toNat < (toSend 5 0).deploy.repeatsMin ∧
    (toSend 5 100).deploy.repeatsMax < (toSend 5 100).txRepeats.toNat ∧
    (let s := { toSend 5 1 with scale := 0x00000001 }
     scaled s.scale (s.cfg.nominal.get .sync) = 0) ∧
    (let s := { toSend 5 1 with scale := 0xFFFFFFFF, cfg := { ref with nominal := .all 65537 } }
     2 ^ 32 ≤ scaled s.scale (s.cfg.nominal.get .gap)) := by decide

theorem test_witness_SeqStepEmitsOnePair :
    running.enc.encState = .idle ∧
    (sending .bg 0 1 6 8).enc.bitIdx.toNat + 1 < (sending .bg 0 1 6 8).enc.sBits.toNat ∧
    (sending .bg 0 1 7 8).enc.sBits.toNat ≤ (sending .bg 0 1 7 8).enc.bitIdx.toNat + 1 ∧
    (sending .tg 0 2 7 8).enc.repIdx.toNat + 1 < (sending .tg 0 2 7 8).enc.sReps.toNat ∧
    (sending .tg 1 2 7 8).enc.sReps.toNat ≤ (sending .tg 1 2 7 8).enc.repIdx.toNat + 1 ∧
    ((sending .sy 0 1 0 8).enc.encState = .busy ∧ (sending .sy 0 1 0 8).enc.step ≠ .bg ∧
      (sending .sy 0 1 0 8).enc.step ≠ .tg) := by decide

/-- One bit once, and the longest transmission that fits the registers. -/
theorem test_witness_SequencerEmitsThePlan :
    (let s := sending .p1 0 1 0 1
     s.pending = [] ∧ s.enc.encState = .busy ∧ s.enc.step = .p1 ∧ s.enc.repIdx = 0 ∧ s.enc.bitIdx = 0 ∧
      1 ≤ s.enc.sBits.toNat ∧ s.enc.sBits.toNat ≤ 80 ∧ 1 ≤ s.enc.sReps.toNat) ∧
    (let s := sending .p1 0 127 0 80
     s.pending = [] ∧ s.enc.encState = .busy ∧ s.enc.step = .p1 ∧ s.enc.repIdx = 0 ∧ s.enc.bitIdx = 0 ∧
      1 ≤ s.enc.sBits.toNat ∧ s.enc.sBits.toNat ≤ 80 ∧ 1 ≤ s.enc.sReps.toNat) := by decide

/-- The first pair, and the first of the second frame. -/
theorem test_witness_PlanAlternatesAndLastsAsStated :
    (plan ref.nominal 0#80 1 2)[0]? = some ⟨true, 425#32⟩ ∧ (plan ref.nominal 0#80 1 2)[10]? = some ⟨true, 425#32⟩ ∧
    (plan ref.nominal 0#80 1 2)[19]? = some ⟨false, 10200#32⟩ := by decide

theorem hearing_wf : WF hearing :=
  ⟨fun k => by cases k <;> decide, fun k => by cases k <;> decide,
    fun j k => by cases j <;> cases k <;> decide, by decide, by decide, by decide⟩

/-- The gaps at the upper ends of their bands, the pulse and the last gap exactly `WD_US`. -/
theorem test_witness_IdealStreamRoundTrip :
    WF hearing ∧ hearing.session = .running ∧ hearing.enc.encState = .idle ∧ 8 = hearing.cfg.expectedBits.toNat ∧
    hearing.lut.pulse.toNat ≤ hearing.cfg.wdUs.toNat ∧
    (∀ k : Kind, k ≠ .pulse →
      (hearing.cfg.lo k).toNat ≤ (hearing.lut.get k).toNat ∧ (hearing.lut.get k).toNat ≤ (hearing.cfg.hi k).toNat ∧
      (hearing.lut.get k).toNat ≤ hearing.cfg.wdUs.toNat) ∧
    hearing.pending =
      { delay := 0, word := encode .rxStart } :: idealEdges 7 (plan hearing.lut hearing.enc.sPkt 8 1) ∧
    hearing.wdReady = false :=
  ⟨hearing_wf, by decide, by decide, by decide, by decide, fun k => by cases k <;> decide, rfl, by decide⟩

/-! ## Calibration -/

/-- V-CAL: the least and the greatest quotient that fit, each of the three failures, a refusal. -/
theorem test_witness_CalLoadComputesTheScale :
    (let s := withArgs config 1 32768 1 0
     s.session = .config ∧ s.args.a0.toNat * 65536 / (2 * s.args.a1.toNat * s.args.a2.toNat) = 1) ∧
    (let s := withArgs config 131071 1 1 0
     s.session = .config ∧ s.args.a0.toNat * 65536 / (2 * s.args.a1.toNat * s.args.a2.toNat) < 2 ^ 32) ∧
    (let s := withArgs config 131072 1 1 0
     s.session = .config ∧ 2 ^ 32 ≤ s.args.a0.toNat * 65536 / (2 * s.args.a1.toNat * s.args.a2.toNat)) ∧
    (let s := withArgs config 106250 0 425 0
     s.session = .config ∧ 2 * s.args.a1.toNat * s.args.a2.toNat = 0) ∧
    (let s := withArgs config 0 1 1 0
     s.session = .config ∧ s.args.a0.toNat * 65536 / (2 * s.args.a1.toNat * s.args.a2.toNat) = 0) ∧
    running.session ≠ .config := by decide

theorem test_witness_CalFailHaltsTheSession :
    config.session ≠ .halted ∧ running.session ≠ .halted ∧ halted.session = .halted := by decide

/-! ## HOST port -/

theorem test_witness_LockStartsTheSession :
    (config.session = .config ∧ (∀ k, config.cfg.nominal.get k ≠ 0) ∧ config.cfg.expectedBits ≠ 0) ∧
    running.session ≠ .config ∧ State.reset.cfg.nominal.get .gap = 0 ∧
    ({ ref with expectedBits := 0 } : Cfg).expectedBits = 0 :=
  ⟨⟨by decide, fun k => by cases k <;> decide, by decide⟩, by decide, by decide, by decide⟩

theorem test_witness_RxStartRestartsTheReceiver : complete.session = .running ∧ config.session ≠ .running := by decide

theorem test_witness_CancelsStopOneChannel : bothChannels.session ≠ .halted ∧ halted.session = .halted := by decide

theorem test_witness_CancelsAreIdempotentAndCommute :
    bothChannels.session ≠ .halted ∧ (∃ t, exec .rxCancel bothChannels = .next t) ∧
    (∃ t, exec .txCancel bothChannels = .next t) := ⟨by decide, ⟨_, rfl⟩, ⟨_, rfl⟩⟩

/-- A configuration register in Config, an operand register in Running, each at its greatest legal value. -/
theorem test_witness_LegalWriteReadsBack :
    (regOf 0x03#8 = some .expectedBits ∧ Reg.expectedBits.access = .rwc ∧ config.session = .config ∧
      Reg.expectedBits.legal 80#32 = true) ∧
    (regOf 0x18#8 = some (.tol .syncGap) ∧ (Reg.tol .syncGap).legal 99#32 = true) ∧
    (regOf 0x08#8 = some .txBits ∧ Reg.txBits.access = .rw ∧ running.session ≠ .halted ∧
      Reg.txBits.legal 127#32 = true) := by decide

/-- Each refusing condition: Halted, an unlisted number, read-only, frozen, one past a legal value. -/
theorem test_witness_IllegalWriteIsRefused :
    halted.session = .halted ∧ regOf 0x0D#8 = none ∧ regOf 0xFF#8 = none ∧
    (regOf 0x01#8 = some .status ∧ Reg.status.access = .ro) ∧
    (regOf 0x04#8 = some .wdUs ∧ Reg.wdUs.access = .rwc ∧ running.session ≠ .config) ∧
    (Reg.expectedBits.legal 0#32 = false ∧ Reg.expectedBits.legal 81#32 = false) ∧
    ((Reg.tol .gap).legal 100#32 = false ∧ Reg.txRepeats.legal 128#32 = false) ∧
    (Reg.scale.legal 0#32 = false ∧ Reg.pvcfg.legal 3#32 = false) := by decide

/-- An unlisted number at each end of a gap in the map. -/
theorem test_witness_ReadsHaveNoSideEffect :
    regOf 0x0D#8 = none ∧ regOf 0x66#8 = none ∧ regOf 0x00#8 ≠ none ∧ regOf 0x01#8 ≠ none := by decide

end Sys2Proof.Tests
end

/-! # Proofs: the data bits of the packet buffer

The latched packet read bit by bit and as a number (41_encoder.md R103; 20_memory.md R41). -/

namespace Sys2Proof.Machine

/-- The index `i` counts down from the most significant bit. -/
theorem packetBit_eq_getLsbD (w : BitVec 80) (i : Fin 80) : packetBit w i = w.getLsbD (79 - i) := by
  simp [packetBit, BitVec.getMsbD_eq_getLsbD, i.isLt]

/-- Appending a byte is one step of the big-endian fold of `Packet.memRead`. -/
theorem toNat_append_byte {n : Nat} (w : BitVec n) (b : Byte) : (w ++ b).toNat = w.toNat * 256 + b.toNat := by
  rw [BitVec.toNat_append, ← Nat.shiftLeft_add_eq_or_of_lt b.isLt, Nat.shiftLeft_eq]

theorem Packet.word_toNat (p : Packet) : p.word.toNat = p.memRead 0 10 := by
  simp [Packet.word, Packet.memRead, Packet.bytes, toNat_append_byte]

/-- The packet word lays the bytes out byte 0 first, each most significant bit first. -/
theorem packetBit_word_of_byte (p : Packet) (k : Fin 10) (j : Nat) (hj : j < 8) :
    packetBit p.word (8 * k + j) = (p.byte k).getMsbD j := by
  unfold packetBit Packet.word
  fin_cases k <;> simp (disch := omega) only [BitVec.getMsbD_append, if_pos, if_neg] <;> simp [Packet.byte]

/-- The bit at index `i` is bit `i % 8`, from the most significant, of byte `i / 8`. -/
theorem packetBit_word (p : Packet) (i : Fin 80) :
    packetBit p.word i = (p.byte ⟨i / 8, by omega⟩).getLsbD (7 - i % 8) := by
  have hj : (i : Nat) % 8 < 8 := Nat.mod_lt _ (by decide)
  have hbyte := packetBit_word_of_byte p ⟨i / 8, by omega⟩ (i % 8) hj
  rw [Nat.div_add_mod] at hbyte
  rw [hbyte, BitVec.getMsbD_eq_getLsbD]
  simp [hj]

/-- Settles O44, from the fold of appended bytes (the number) and the place of each byte in the word (the bits). -/
theorem dataBitsLeaveMostSignificantFirst : Obligations.DataBitsLeaveMostSignificantFirst :=
  ⟨packetBit_eq_getLsbD, fun p => ⟨p.word_toNat, packetBit_word p⟩⟩

end Sys2Proof.Machine

/-! # Proofs: the bands of the classifier

An integer duration against the rounded bounds (42_classifier.md R121). -/

namespace Sys2Proof.Machine

/-- The integers not below a quotient rounded up are those not below the quotient itself. -/
theorem ceilHundredth_le_iff (x d : Nat) : (x + 99) / 100 ≤ d ↔ x ≤ 100 * d := by omega

/-- The integers not above a quotient rounded down are those not above the quotient itself; the clip is no limit on a
32-bit duration. -/
theorem le_clippedHundredth_iff (x : Nat) (d : U32) :
    d.toNat ≤ min (x / 100) (2 ^ 32 - 1) ↔ 100 * d.toNat ≤ x := by
  have hd := d.isLt
  omega

theorem Cfg.lo_toNat (c : Cfg) (k : Kind) :
    (c.lo k).toNat = ((c.nominal.get k).toNat * (100 - (c.tol.get k).toNat) + 99) / 100 := bandLo_toNat _ _

theorem Cfg.hi_toNat (c : Cfg) (k : Kind) :
    (c.hi k).toNat = min ((c.nominal.get k).toNat * (100 + (c.tol.get k).toNat) / 100) (2 ^ 32 - 1) :=
  bandHi_toNat _ _

/-- `LO[k] ≤ d` is the real lower bound on an integer duration. -/
theorem Cfg.lo_le_iff (c : Cfg) (k : Kind) (d : U32) :
    (c.lo k).toNat ≤ d.toNat ↔ (c.nominal.get k).toNat * (100 - (c.tol.get k).toNat) ≤ 100 * d.toNat := by
  rw [c.lo_toNat, ceilHundredth_le_iff]

/-- `d ≤ HI[k]` is the real upper bound on an integer duration. -/
theorem Cfg.le_hi_iff (c : Cfg) (k : Kind) (d : U32) :
    d.toNat ≤ (c.hi k).toNat ↔ 100 * d.toNat ≤ (c.nominal.get k).toNat * (100 + (c.tol.get k).toNat) := by
  rw [c.hi_toNat, le_clippedHundredth_iff]

/-- A tolerance only lowers the lower bound below the nominal. -/
theorem Cfg.lo_le_nominal (c : Cfg) (k : Kind) : (c.lo k).toNat ≤ (c.nominal.get k).toNat := by
  rw [c.lo_le_iff, Nat.mul_comm 100]
  exact Nat.mul_le_mul_left _ (Nat.sub_le _ _)

/-- A tolerance only raises the upper bound above the nominal; the clip leaves a 32-bit nominal below it. -/
theorem Cfg.nominal_le_hi (c : Cfg) (k : Kind) : (c.nominal.get k).toNat ≤ (c.hi k).toNat := by
  rw [c.le_hi_iff, Nat.mul_comm 100]
  exact Nat.mul_le_mul_left _ (Nat.le_add_right _ _)

/-- Settles O16, from what each bound says of an integer duration; the nominal is such a duration. -/
theorem bandBoundsAreExact : Obligations.BandBoundsAreExact := by
  rintro c k d _ _ rfl rfl -
  exact ⟨c.lo_toNat k, c.hi_toNat k, and_congr (c.lo_le_iff k d) (c.le_hi_iff k d), c.lo_le_nominal k,
    c.nominal_le_hi k⟩

end Sys2Proof.Machine

/-! # Proofs: what CFG_READ answers

The words a register read assembles, as numbers, and the register file read through its map (10_state.md R16;
45_host_control.md R196). -/

namespace Sys2Proof.Machine

/-! ## The assembled words -/

/-- Fields side by side are digits of a number: the right one low. -/
theorem toNat_append_field {m n : Nat} (x : BitVec m) (y : BitVec n) : (x ++ y).toNat = x.toNat * 2 ^ n + y.toNat := by
  rw [BitVec.toNat_append, ← Nat.shiftLeft_add_eq_or_of_lt y.isLt, Nat.shiftLeft_eq]

@[simp] theorem bit_toNat (b : Bool) : (bit b).toNat = b.toNat := BitVec.toNat_ofBool b

theorem DecState.bit_eq_beq (x : DecState) : x.bit = (x == .dataCollect) := by cases x <;> rfl

theorem Phase.bit_eq_beq (x : Phase) : x.bit = (x == .expectInterval) := by cases x <;> rfl

theorem EncState.bit_eq_beq (x : EncState) : x.bit = (x == .busy) := by cases x <;> rfl

theorem State.statusWord_toNat (s : State) :
    s.statusWord.toNat =
      s.session.code.toNat + 4 * s.rx.rxEn.toNat + 8 * (s.enc.encState == .busy).toNat +
        16 * (s.dec.state == .dataCollect).toNat + 32 * (s.dec.phase == .expectInterval).toNat +
        64 * s.rx.prevValid.toNat + 128 * s.rx.wdArmed.toNat := by
  simp only [State.statusWord, toNat_append_field, bit_toNat, DecState.bit_eq_beq, Phase.bit_eq_beq,
    EncState.bit_eq_beq, BitVec.toNat_ofNat]
  omega

theorem ErrFlags.word_toNat (e : ErrFlags) :
    e.word.toNat = e.calFail.toNat + 2 * e.cfgErr.toNat + 4 * e.chkFail.toNat := by
  simp only [ErrFlags.word, toNat_append_field, bit_toNat, BitVec.toNat_ofNat]
  omega

theorem Cfg.pvcfgWord_toNat (c : Cfg) :
    c.pvcfgWord.toNat =
      c.variant.code.toNat + 4 * c.chkMode.bit.toNat + 2 ^ 8 * c.crcPoly.toNat + 2 ^ 16 * c.crcInit.toNat := by
  simp only [Cfg.pvcfgWord, toNat_append_field, bit_toNat, BitVec.toNat_ofNat]
  omega

theorem Cfg.markersWord_toNat (c : Cfg) : c.markersWord.toNat = c.marker4.toNat + 2 ^ 8 * c.marker5.toNat := by
  simp only [Cfg.markersWord, toNat_append_field, BitVec.toNat_ofNat]
  omega

theorem PvResult.word_toNat (r : PvResult) : r.word.toNat = r.valid.toNat + 2 * r.err.toNat := by
  simp only [PvResult.word, toNat_append_field, bit_toNat, BitVec.toNat_ofNat]
  omega

theorem Decoder.dbgWord_toNat (d : Decoder) :
    d.dbgWord.toNat =
      (d.state == .dataCollect).toNat + 2 * (d.phase == .expectInterval).toNat + 4 * d.syncCount.toNat +
        2 ^ 8 * d.bitCount.toNat := by
  simp only [Decoder.dbgWord, toNat_append_field, bit_toNat, DecState.bit_eq_beq, Phase.bit_eq_beq,
    BitVec.toNat_ofNat]
  omega

theorem Encoder.dbgWord_toNat (e : Encoder) :
    e.dbgWord.toNat = e.step.code.toNat + 2 ^ 4 * e.bitIdx.toNat + 2 ^ 11 * e.repIdx.toNat := by
  simp only [Encoder.dbgWord, toNat_append_field, BitVec.toNat_ofNat]
  omega

/-- Words cut from a code at 0, 32 and 64 are its digits, low word first (10_state.md R25). -/
theorem code_toNat_eq_words (code : BitVec 80) :
    (code.extractLsb' 0 32).toNat + 2 ^ 32 * (code.extractLsb' 32 32).toNat +
      2 ^ 64 * ((code.extractLsb' 64 16).setWidth 32).toNat = code.toNat := by
  have hcode := code.isLt
  simp only [BitVec.toNat_setWidth, BitVec.extractLsb'_toNat, Nat.shiftRight_eq_div_pow]
  omega

/-- Four bytes of the packet buffer make a word of it, in wire order (20_memory.md R44). -/
theorem toNat_append_four_bytes (a b c d : Byte) :
    (a ++ b ++ c ++ d).toNat = [a, b, c, d].foldl (fun acc b => acc * 256 + b.toNat) 0 := by
  simp only [toNat_append_byte, List.foldl_cons, List.foldl_nil, Nat.zero_mul, Nat.zero_add]

/-- The last two bytes fill the upper half of their word. -/
theorem toNat_append_two_bytes_zero (a b : Byte) :
    (a ++ b ++ 0#16).toNat = 2 ^ 16 * [a, b].foldl (fun acc b => acc * 256 + b.toNat) 0 := by
  simp only [toNat_append_field, List.foldl_cons, List.foldl_nil, BitVec.toNat_ofNat]
  omega

/-! ## The register map -/

/-- No number of the map is listed twice, so each row is the one that its number finds. -/
theorem regOf_of_mem : ∀ row ∈ regMap, regOf row.1 = some row.2 := by decide

theorem readNumber_of_mem {n : Byte} {r : Reg} (s : State) (h : (n, r) ∈ regMap) : readNumber n s = r.read s := by
  rw [readNumber, regOf_of_mem _ h]

theorem readNumber_toNat_of_mem {n : Byte} {r : Reg} {m : Nat} (s : State) (h : (n, r) ∈ regMap)
    (hread : (r.read s).toNat = m) : (readNumber n s).toNat = m := by
  rw [readNumber_of_mem s h, hread]

theorem readNumber_of_unlisted {n : Byte} (s : State) (h : regOf n = none) : readNumber n s = 0 := by
  rw [readNumber, h]

/-- A register per kind lies at the offset of the kind code (30_encoding.md R61). -/
theorem kindReg_mem_kindRows (base : Nat) (f : Kind → Reg) (k : Kind) :
    (BitVec.ofNat 8 base + (kindCode (some k)).setWidth 8, f k) ∈ kindRows base f := by
  cases k <;> simp [kindRows, kindCode, BitVec.ofNat_add]

theorem kindReg_mem_regMap {base : Nat} {f : Kind → Reg} (h : kindRows base f ⊆ regMap) (k : Kind) :
    (BitVec.ofNat 8 base + (kindCode (some k)).setWidth 8, f k) ∈ regMap :=
  h (kindReg_mem_kindRows base f k)

/-! ## The contents -/

/-- Each listed register read at its row of the map: a stored word as it is, an assembled one by its number. -/
theorem registerContents (s : State) : RegisterContents s where
  expectedBits := readNumber_toNat_of_mem (r := .expectedBits) s (by decide) (BitVec.toNat_setWidth_of_le (by decide))
  wdUs := readNumber_of_mem (r := .wdUs) s (by decide)
  scale := readNumber_of_mem (r := .scale) s (by decide)
  pvcfg := by
    refine readNumber_toNat_of_mem (r := .pvcfg) s (by decide) (s.cfg.pvcfgWord_toNat.trans ?_)
    cases s.cfg.variant <;> cases s.cfg.chkMode <;> rfl
  markers := readNumber_toNat_of_mem (r := .markers) s (by decide) s.cfg.markersWord_toNat
  txBits := readNumber_toNat_of_mem (r := .txBits) s (by decide) (BitVec.toNat_setWidth_of_le (by decide))
  txRepeats := readNumber_toNat_of_mem (r := .txRepeats) s (by decide) (BitVec.toNat_setWidth_of_le (by decide))
  pktW0 := readNumber_toNat_of_mem (r := .pktW0) s (by decide) (toNat_append_four_bytes _ _ _ _)
  pktW1 := readNumber_toNat_of_mem (r := .pktW1) s (by decide) (toNat_append_four_bytes _ _ _ _)
  pktW2 := readNumber_toNat_of_mem (r := .pktW2) s (by decide) (toNat_append_two_bytes_zero _ _)
  nominal k := readNumber_of_mem s (kindReg_mem_regMap (f := .nominal) (by decide) k)
  tol k := readNumber_toNat_of_mem s (kindReg_mem_regMap (f := .tol) (by decide) k)
    (BitVec.toNat_setWidth_of_le (by decide))
  lo k := readNumber_toNat_of_mem s (kindReg_mem_regMap (f := .lo) (by decide) k) (s.cfg.lo_toNat k)
  hi k := readNumber_toNat_of_mem s (kindReg_mem_regMap (f := .hi) (by decide) k) (s.cfg.hi_toNat k)
  violCnt := readNumber_of_mem (r := .violCnt) s (by decide)
  lenMissCnt := readNumber_of_mem (r := .lenMissCnt) s (by decide)
  pktCnt := readNumber_of_mem (r := .pktCnt) s (by decide)
  chkFailCnt := readNumber_of_mem (r := .chkFailCnt) s (by decide)
  arg0 := readNumber_of_mem (r := .arg 0) s (by decide)
  arg1 := readNumber_of_mem (r := .arg 1) s (by decide)
  arg2 := readNumber_of_mem (r := .arg 2) s (by decide)
  arg3 := readNumber_of_mem (r := .arg 3) s (by decide)
  arg4 := readNumber_of_mem (r := .arg 4) s (by decide)
  res0 := readNumber_toNat_of_mem (r := .res0) s (by decide) (BitVec.toNat_setWidth_of_le (by decide))
  outCode := by
    rw [readNumber_of_mem (r := .outCode0) s (by decide), readNumber_of_mem (r := .outCode1) s (by decide),
      readNumber_of_mem (r := .outCode2) s (by decide)]
    exact code_toNat_eq_words _
  outBits := readNumber_toNat_of_mem (r := .outBits) s (by decide) (BitVec.toNat_setWidth_of_le (by decide))
  outAvgPulse := readNumber_of_mem (r := .outAvgPulse) s (by decide)
  outAvgShort := readNumber_of_mem (r := .outAvgShort) s (by decide)
  outAvgLong := readNumber_of_mem (r := .outAvgLong) s (by decide)
  outPv := readNumber_toNat_of_mem (r := .outPv) s (by decide) s.outReg.pv.word_toNat
  outF0 := readNumber_of_mem (r := .outF 0) s (by decide)
  outF1 := readNumber_of_mem (r := .outF 1) s (by decide)
  outF2 := readNumber_of_mem (r := .outF 2) s (by decide)
  outF3 := readNumber_of_mem (r := .outF 3) s (by decide)
  outF4 := readNumber_of_mem (r := .outF 4) s (by decide)
  t k := readNumber_of_mem s (kindReg_mem_regMap (f := .t) (by decide) k)
  decDbg := readNumber_toNat_of_mem (r := .decDbg) s (by decide) s.dec.dbgWord_toNat
  encDbg := readNumber_toNat_of_mem (r := .encDbg) s (by decide) s.enc.dbgWord_toNat
  valPv := readNumber_toNat_of_mem (r := .valPv) s (by decide) s.valPv.word_toNat
  valF0 := readNumber_of_mem (r := .valF 0) s (by decide)
  valF1 := readNumber_of_mem (r := .valF 1) s (by decide)
  valF2 := readNumber_of_mem (r := .valF 2) s (by decide)
  valF3 := readNumber_of_mem (r := .valF 3) s (by decide)
  valF4 := readNumber_of_mem (r := .valF 4) s (by decide)

/-- Settles O59: the answer of the step is the register's content, listed register by register; `STATUS` and `ERR` by
the bits of their words. -/
theorem readsHaveNoSideEffect : Obligations.ReadsHaveNoSideEffect := by
  intro n s
  refine ⟨registerContents s, cfgReadOp n s, readNumber n s, exec_cfgRead n s, rfl, rfl, readNumber_of_unlisted s,
    ?cmd, ?status, ?err⟩
  case cmd =>
    rintro rfl
    exact readNumber_of_mem (r := .cmd) s (by decide)
  case status =>
    rintro rfl
    refine readNumber_toNat_of_mem (r := .status) s (by decide) (s.statusWord_toNat.trans ?_)
    cases s.session <;> rfl
  case err =>
    rintro rfl
    exact readNumber_toNat_of_mem (r := .err) s (by decide) s.err.word_toNat

end Sys2Proof.Machine

/-! # Proofs: the Gap that ends a packet of the wrong length

The attempt is counted and dropped (43_decoder.md R144, R145, R156; 60_exceptions.md R223). -/

namespace Sys2Proof.Machine

/-- The phase that the interval leaves behind does not show: `dec_reset()` follows. -/
theorem evInterval_gap_of_bitCount_ne {s : State} (d : U32) (hstate : s.dec.state = .dataCollect)
    (hphase : s.dec.phase = .expectInterval) (hlen : s.dec.bitCount.toNat ≠ s.cfg.expectedBits.toNat) :
    evInterval (some .gap) d s = decReset (raise .lengthMismatch s) := by
  simp only [evInterval, hphase, hstate, onGap, if_neg hlen]
  rfl

/-- The synthetic Gap differs from the real one only in the watchdog, disarmed before it. -/
theorem evWd_of_bitCount_ne {s : State} (hstate : s.dec.state = .dataCollect)
    (hphase : s.dec.phase = .expectInterval) (hlen : s.dec.bitCount.toNat ≠ s.cfg.expectedBits.toNat) :
    evWd s = { decReset (raise .lengthMismatch s) with rx := { s.rx with wdArmed := false } } :=
  evInterval_gap_of_bitCount_ne (s := { s with rx := { s.rx with wdArmed := false } }) 0 hstate hphase hlen

/-- Settles O28: the state reached is the length mismatch raised and the decoder reset, for either Gap; the count
saturates. -/
theorem gapOfWrongLengthIsDiscarded : Obligations.GapOfWrongLengthIsDiscarded := by
  intro s d hstate hphase hlen
  refine ⟨decReset (raise .lengthMismatch s), ?real, rfl, satInc_toNat s.cnt.lenMiss, rfl, ?synthetic⟩
  case real => rw [exec_evIvGap, evInterval_gap_of_bitCount_ne d hstate hphase hlen]
  case synthetic => rw [exec_evWd, evWd_of_bitCount_ne hstate hphase hlen]

end Sys2Proof.Machine

/-! # Proofs: fields and check of the 40-bit and the 48-bit variant

The bytes of a code, and the fields cut from them, as digits of one number (44_validator.md R171 to R175). -/

namespace Sys2Proof.Machine

/-! ## Bytes and nibbles -/

theorem highNibble_toNat (b : Byte) : (b.extractLsb' 4 4).toNat = b.toNat / 16 := by
  have hb := b.isLt
  rw [BitVec.extractLsb'_toNat, Nat.shiftRight_eq_div_pow]
  omega

theorem lowNibble_toNat (b : Byte) : (b.extractLsb' 0 4).toNat = b.toNat % 16 := by
  rw [BitVec.extractLsb'_toNat, Nat.shiftRight_zero]

theorem codeByte_toNat (l : Nat) (code : BitVec 80) (k : Nat) :
    (codeByte l code k).toNat = code.toNat / 2 ^ (l - 8 - 8 * k) % 256 := by
  rw [codeByte, BitVec.extractLsb'_toNat, Nat.shiftRight_eq_div_pow]

/-- The last byte is the lowest digit. -/
theorem codeByte_last_toNat (l : Nat) (code : BitVec 80) (k : Nat) (hlast : l = 8 * k + 8) :
    (codeByte l code k).toNat = code.toNat % 256 := by
  have hpos : l - 8 - 8 * k = 0 := by omega
  rw [codeByte_toNat, hpos, Nat.pow_zero, Nat.div_one]

/-- A byte that another follows, over the lowest bit of that one. -/
theorem codeByte_toNat_of_next (l : Nat) (code : BitVec 80) (k : Nat) (hnext : 8 * k + 16 ≤ l) :
    (codeByte l code k).toNat = code.toNat / 2 ^ (l - 8 - 8 * (k + 1)) / 2 ^ 8 % 256 := by
  have hpos : l - 8 - 8 * k = l - 8 - 8 * (k + 1) + 8 := by omega
  rw [codeByte_toNat, hpos, Nat.pow_add, Nat.div_div_eq_div_mul]

/-! ## Fields of a code

Each is the content of a 32-bit field register. -/

theorem byteField_toNat (l : Nat) (code : BitVec 80) (k : Nat) :
    ((codeByte l code k).setWidth 32).toNat = code.toNat / 2 ^ (l - 8 - 8 * k) % 256 := by
  rw [BitVec.toNat_setWidth_of_le (by decide), codeByte_toNat]

theorem lastByteField_toNat (l : Nat) (code : BitVec 80) (k : Nat) (hlast : l = 8 * k + 8) :
    ((codeByte l code k).setWidth 32).toNat = code.toNat % 256 := by
  rw [BitVec.toNat_setWidth_of_le (by decide), codeByte_last_toNat l code k hlast]

theorem highNibbleField_toNat (l : Nat) (code : BitVec 80) (k : Nat) :
    (((codeByte l code k).extractLsb' 4 4).setWidth 32).toNat = code.toNat / 2 ^ (l - 8 - 8 * k + 4) % 16 := by
  rw [BitVec.toNat_setWidth_of_le (by decide), highNibble_toNat, codeByte_toNat, Nat.pow_add,
    ← Nat.div_div_eq_div_mul]
  omega

/-- Twelve bits: the lower nibble of a byte, then the next byte. -/
theorem lowNibbleByteField_toNat (l : Nat) (code : BitVec 80) (k : Nat) (hnext : 8 * k + 16 ≤ l) :
    (((codeByte l code k).extractLsb' 0 4 ++ codeByte l code (k + 1)).setWidth 32).toNat =
      code.toNat / 2 ^ (l - 8 - 8 * (k + 1)) % 4096 := by
  rw [BitVec.toNat_setWidth_of_le (by decide), toNat_append_byte, lowNibble_toNat,
    codeByte_toNat_of_next l code k hnext, codeByte_toNat]
  omega

/-- Twelve bits: a byte, then the upper nibble of the next. -/
theorem byteHighNibbleField_toNat (l : Nat) (code : BitVec 80) (k : Nat) (hnext : 8 * k + 16 ≤ l) :
    ((codeByte l code k ++ (codeByte l code (k + 1)).extractLsb' 4 4).setWidth 32).toNat =
      code.toNat / 2 ^ (l - 8 - 8 * (k + 1) + 4) % 4096 := by
  rw [BitVec.toNat_setWidth_of_le (by decide), toNat_append_field, highNibble_toNat,
    codeByte_toNat_of_next l code k hnext, codeByte_toNat, Nat.pow_add, ← Nat.div_div_eq_div_mul]
  omega

/-! ## The additive checksum -/

/-- Carries out of bit 7 may be discarded at each addition or once at the end. -/
theorem foldl_add_toNat (bs : List Byte) (acc : Byte) :
    (bs.foldl (· + ·) acc).toNat = (acc.toNat + (bs.map BitVec.toNat).sum) % 256 := by
  induction bs generalizing acc with
  | nil => exact (Nat.mod_eq_of_lt acc.isLt).symm
  | cons b bs ih =>
    rw [List.foldl_cons, ih, BitVec.toNat_add, Nat.mod_add_mod, List.map_cons, List.sum_cons, Nat.add_assoc]

/-- The sum of the bytes modulo 256 (44_validator.md R178). -/
theorem add8_toNat (bs : List Byte) : (add8 bs).toNat = (bs.map BitVec.toNat).sum % 256 := by
  simp only [add8, foldl_add_toNat, BitVec.ofNat_eq_ofNat, BitVec.toNat_zero, Nat.zero_add]

/-! ## The result -/

/-- The error of a checked result says no more than its validity (44_validator.md R179). -/
theorem pvResult_err (ok : Bool) (f0 f1 f2 f3 f4 : U32) :
    (pvResult ok f0 f1 f2 f3 f4).err = if (pvResult ok f0 f1 f2 f3 f4).valid then 0 else 4 := rfl

theorem validateResult_v40 (d : Deployment) {c : Cfg} (code : BitVec 80) (hc : c.variant = .v40) :
    validateResult d c code 40 = validateV40 code := by
  simp only [validateResult, hc]
  rfl

theorem validateResult_v48 (d : Deployment) {c : Cfg} (code : BitVec 80) (hc : c.variant = .v48) :
    validateResult d c code 48 = validateV48 c code := by
  simp only [validateResult, hc]
  rfl

theorem validateV40_valid_iff_add8 (code : BitVec 80) :
    (validateV40 code).valid = true ↔
      add8 [codeByte 40 code 0, codeByte 40 code 1, codeByte 40 code 2, codeByte 40 code 3] = codeByte 40 code 4 :=
  beq_iff_eq

/-- R173 in numbers. -/
theorem validateV40_valid_iff (code : BitVec 80) :
    (validateV40 code).valid = true ↔
      (code.toNat / 2 ^ 32 % 256 + code.toNat / 2 ^ 24 % 256 + code.toNat / 2 ^ 16 % 256 +
        code.toNat / 2 ^ 8 % 256) % 256 = code.toNat % 256 := by
  rw [validateV40_valid_iff_add8, ← BitVec.toNat_inj, add8_toNat, codeByte_last_toNat 40 code 4 rfl]
  simp only [List.map_cons, List.map_nil, List.sum_cons, List.sum_nil, codeByte_toNat, Nat.add_zero, Nat.add_assoc]

theorem validateV48_valid_iff_markers (c : Cfg) (code : BitVec 80) :
    (validateV48 c code).valid = true ↔ codeByte 48 code 4 = c.marker4 ∧ codeByte 48 code 5 = c.marker5 :=
  (Bool.and_eq_true_iff ..).trans (and_congr beq_iff_eq beq_iff_eq)

/-- R175 in numbers. -/
theorem validateV48_valid_iff (c : Cfg) (code : BitVec 80) :
    (validateV48 c code).valid = true ↔
      code.toNat / 2 ^ 8 % 256 = c.marker4.toNat ∧ code.toNat % 256 = c.marker5.toNat := by
  rw [validateV48_valid_iff_markers, ← BitVec.toNat_inj, ← BitVec.toNat_inj, codeByte_last_toNat 48 code 5 rfl,
    codeByte_toNat]

/-- Settles O34: each field is read off the bytes that hold it (R172), the check off the sum (R173). -/
theorem validateV40FieldsAndCheck : Obligations.ValidateV40FieldsAndCheck := by
  intro d c code hc
  refine ⟨validateV40 code, validateResult_v40 d code hc, ?id, ?status, ?temperature, ?humidity, ?checksum,
    validateV40_valid_iff code, pvResult_err ..⟩
  case id => exact byteField_toNat 40 code 0
  case status => exact highNibbleField_toNat 40 code 1
  case temperature => exact lowNibbleByteField_toNat 40 code 1 (by decide)
  case humidity => exact byteField_toNat 40 code 3
  case checksum => exact lastByteField_toNat 40 code 4 rfl

/-- Settles O35: each field is read off the bytes that hold it (R174), the check off the two markers (R175). -/
theorem validateV48FieldsAndMarkers : Obligations.ValidateV48FieldsAndMarkers := by
  intro d c code hc
  refine ⟨validateV48 c code, validateResult_v48 d code hc, ?id, ?tempA, ?tempB, ?marker4, ?marker5,
    validateV48_valid_iff c code, pvResult_err ..⟩
  case id => exact byteField_toNat 48 code 0
  case tempA => exact byteHighNibbleField_toNat 48 code 1 (by decide)
  case tempB => exact lowNibbleByteField_toNat 48 code 2 (by decide)
  case marker4 => exact byteField_toNat 48 code 4
  case marker5 => exact lastByteField_toNat 48 code 5 rfl

end Sys2Proof.Machine

/-! # Proofs: the encoding

Words taken apart into their fields, bytes put together to words, and the operations they select (30_encoding.md R62 to
R66, R75, R76). -/

namespace Sys2Proof

/-! ## The fields of a word -/

/-- An access word is its write flag, its register number and its data (30_encoding.md R65). -/
theorem decode_hostWord (v : Variant) (f : BitVec 1) (reg : Byte) (data : U32) :
    decode v (.host (f ++ reg ++ data)) =
      if f.getLsbD 0 then
        if reg = 0x00#8 then decodeCommand v (data.extractLsb' 0 8) else .cfgWrite reg data
      else .cfgRead reg := by
  have hflag : (f ++ reg ++ data).getLsbD 40 = f.getLsbD 0 := by
    rw [BitVec.getLsbD_append, BitVec.getLsbD_append]
    rfl
  have hreg : (f ++ reg ++ data).extractLsb' 32 8 = reg := by
    rw [BitVec.extractLsb'_append_eq_of_le (by decide)]
    exact BitVec.extractLsb'_append_eq_right
  have hdata : (f ++ reg ++ data).extractLsb' 0 32 = data := BitVec.extractLsb'_append_eq_right
  have hcode : (f ++ reg ++ data).extractLsb' 0 8 = data.extractLsb' 0 8 :=
    BitVec.extractLsb'_append_eq_of_add_le (by decide)
  simp only [decode, hflag, hreg, hdata, hcode]

/-- The word of a command, with any bits above its code (10_state.md R17). -/
theorem decode_commandBits (v : Variant) (hi : BitVec 24) (c : Byte) :
    decode v (.host (1#1 ++ 0x00#8 ++ hi ++ c)) = decodeCommand v c := by
  have hassoc : (1#1 ++ 0x00#8 ++ hi ++ c : BitVec 41) = 1#1 ++ 0x00#8 ++ (hi ++ c) := BitVec.append_assoc
  have hcode : (hi ++ c).extractLsb' 0 8 = c := BitVec.extractLsb'_append_eq_right
  rw [hassoc, decode_hostWord]
  exact congrArg (decodeCommand v) hcode

theorem decode_commandWord (v : Variant) (c : Byte) : decode v (commandWord c) = decodeCommand v c :=
  decode_commandBits v 0 c

theorem decode_cfgWriteWord (v : Variant) (reg : Byte) (data : U32) (h : reg ≠ 0x00#8) :
    decode v (.host (1#1 ++ reg ++ data)) = .cfgWrite reg data := by
  rw [decode_hostWord, if_neg h]
  rfl

theorem decode_cfgReadWord (v : Variant) (reg : Byte) (data : U32) :
    decode v (.host (0#1 ++ reg ++ data)) = .cfgRead reg := decode_hostWord v 0#1 reg data

theorem decode_edgeWord (v : Variant) (level : Bool) (ts : U32) :
    decode v (.edge (BitVec.ofBool level ++ ts)) = .edge level ts := by
  have hlevel : (BitVec.ofBool level ++ ts).getLsbD 32 = level := by
    rw [BitVec.getLsbD_append]
    cases level <;> rfl
  have hts : (BitVec.ofBool level ++ ts).extractLsb' 0 32 = ts := BitVec.extractLsb'_append_eq_right
  simp only [decode, hlevel, hts]

theorem decode_eventWord (v : Variant) (t : BitVec 4) (d : U32) : decode v (eventWord t d) = decodeEvent t d :=
  congrArg₂ decodeEvent BitVec.extractLsb'_append_eq_left BitVec.extractLsb'_append_eq_right

/-! ## What a code selects -/

/-- The reserved codes are all but 1 to 10 (10_state.md R17). -/
theorem wellFormed_cmdReserved_iff (c : Byte) :
    WellFormed (.cmdReserved c) = true ↔ c.toNat = 0 ∨ 11 ≤ c.toNat := by
  simp [WellFormed, ← BitVec.toNat_inj]

theorem decodeCommand_reserved (v : Variant) (c : Byte) (h : WellFormed (.cmdReserved c) = true) :
    decodeCommand v c = .cmdReserved c := by
  have hc := (wellFormed_cmdReserved_iff c).1 h
  unfold decodeCommand
  split
  case h_11 => rfl
  all_goals omega

theorem decodeCommand_wellFormed (v : Variant) (c : Byte) :
    WellFormed (decodeCommand v c) = true ∧ SelectedBy v (decodeCommand v c) = true := by
  unfold decodeCommand
  split
  case h_9 => cases v <;> exact ⟨rfl, rfl⟩
  case h_11 =>
    simp only [imp_false] at *
    exact ⟨(wellFormed_cmdReserved_iff c).2 (by omega), rfl⟩
  all_goals exact ⟨rfl, rfl⟩

theorem decodeEvent_wellFormed (v : Variant) (t : BitVec 4) (d : U32) :
    WellFormed (decodeEvent t d) = true ∧ SelectedBy v (decodeEvent t d) = true := by
  unfold decodeEvent
  split <;> exact ⟨rfl, rfl⟩

theorem decode_wellFormed (v : Variant) (w : PortWord) :
    WellFormed (decode v w) = true ∧ SelectedBy v (decode v w) = true := by
  cases w with
  | edge w => exact ⟨rfl, rfl⟩
  | event w => exact decodeEvent_wellFormed v _ _
  | host w =>
    simp only [decode]
    split
    · split
      · exact decodeCommand_wellFormed v _
      · next hreg => exact ⟨bne_iff_ne.2 hreg, rfl⟩
    · exact ⟨rfl, rfl⟩
  | seqTurn => exact ⟨rfl, rfl⟩
  | resetLine => exact ⟨rfl, rfl⟩

/-! ## Bytes -/

/-- The low bytes of a number, put together again. -/
theorem natOfBytes_bytesOfNat (n w : Nat) : natOfBytes (bytesOfNat n w) = w % 256 ^ n := by
  induction n generalizing w with
  | zero => simp [bytesOfNat, natOfBytes, Nat.mod_one]
  | succ n ih =>
    rw [bytesOfNat, natOfBytes, ih, Nat.pow_succ, Nat.mul_comm, Nat.mul_comm (256 ^ n), Nat.mod_mul]
    simp [Nat.mul_comm]

theorem wordOfNat_bits (w : PortWord) : wordOfNat w.port w.bits = w := by
  cases w <;> simp [wordOfNat, PortWord.port, PortWord.bits]

theorem Port.width_le_bytes (p : Port) : 2 ^ p.width ≤ 256 ^ p.numBytes := by
  cases p <;> decide

/-- The bytes of a word stand for it (log 7). -/
theorem wordOfBytes_bytesOfWord (w : PortWord) : wordOfBytes w.port (bytesOfWord w) = .ok w := by
  obtain ⟨hfits, hlength⟩ := Laws.EncodingFits.word_fits w
  have hnat : natOfBytes (bytesOfWord w) = w.bits := by
    rw [bytesOfWord, natOfBytes_bytesOfNat, Nat.mod_eq_of_lt (Nat.lt_of_lt_of_le hfits w.port.width_le_bytes)]
  rw [wordOfBytes, if_neg (not_not.2 hlength), hnat, if_neg (Nat.not_le.2 hfits), wordOfNat_bits]

theorem decodeBytes_bytesOfWord (v : Variant) (w : PortWord) :
    decodeBytes v w.port (bytesOfWord w) = .ok (decode v w) := by
  rw [decodeBytes, wordOfBytes_bytesOfWord]

/-! ## The round trip -/

theorem decode_encode (v : Variant) (i : Instr) (hwf : WellFormed i = true) (hsel : SelectedBy v i = true) :
    decode v (encode i) = i := by
  cases i
  case edge level ts => exact decode_edgeWord v level ts
  case cfgWrite reg data => exact decode_cfgWriteWord v reg data (bne_iff_ne.1 hwf)
  case cfgRead reg => exact decode_cfgReadWord v reg 0
  case cmdReserved c => exact (decode_commandWord v c).trans (decodeCommand_reserved v c hwf)
  case seqStep => rfl
  case reset => rfl
  case frameV40 =>
    obtain rfl : v = .v40 := beq_iff_eq.1 hsel
    exact decode_commandWord _ 9#8
  case frameV48 =>
    obtain rfl : v = .v48 := beq_iff_eq.1 hsel
    exact decode_commandWord _ 9#8
  case frameV80 =>
    obtain rfl : v = .v80 := beq_iff_eq.1 hsel
    exact decode_commandWord _ 9#8
  case lock | rxStart | rxCancel | encode | txCancel | calLoad | calFail | validate | classify =>
    exact decode_commandWord v _
  all_goals exact decode_eventWord v _ _

/-- Settles O1, word by word from the fields of each format; the bytes stand for the word. -/
theorem decodeEncodeRoundTrip : Obligations.DecodeEncodeRoundTrip := by
  intro v i hwf hsel
  have hword := decode_encode v i hwf hsel
  refine ⟨hword, ?_⟩
  rw [encodeBytes, decodeBytes_bytesOfWord, hword]

/-- Settles O2, from what each port's word selects. -/
theorem everyWordSelectsAnOperation : Obligations.EveryWordSelectsAnOperation := fun v =>
  ⟨decode_wellFormed v, decode_commandBits v, decode_cfgReadWord v, decode_eventWord v 0b1001#4⟩

/-- Settles O3: the words are closed. -/
theorem sampleWordsDecode : Obligations.SampleWordsDecode := by
  unfold Obligations.SampleWordsDecode
  decide

end Sys2Proof

/-! # Proofs: one step of the sequencer

The pair and the next position as functions of the encoder's registers (41_encoder.md R105 to R107). -/

namespace Sys2Proof.Machine

/-- The pair handed over at the encoder's position (41_encoder.md R105). -/
def Encoder.pair (t : PerKind U32) (e : Encoder) : Segment :=
  match e.step with
  | .p1 | .p2 | .p3 | .bp | .tp => ⟨true, t.pulse⟩
  | .sg1 | .sg2 => ⟨false, t.syncGap⟩
  | .sy => ⟨false, t.sync⟩
  | .bg => ⟨false, if packetBit e.sPkt e.bitIdx.toNat then t.long else t.short⟩
  | .tg => ⟨false, t.gap⟩

/-- The encoder after that pair (41_encoder.md R105). -/
def Encoder.next (e : Encoder) : Encoder :=
  match e.step with
  | .p1 => { e with step := .sg1 }
  | .sg1 => { e with step := .p2 }
  | .p2 => { e with step := .sg2 }
  | .sg2 => { e with step := .p3 }
  | .p3 => { e with step := .sy }
  | .sy => { e with step := .bp }
  | .bp => { e with step := .bg }
  | .bg =>
    if e.bitIdx.toNat + 1 < e.sBits.toNat then { e with bitIdx := e.bitIdx + 1, step := .bp }
    else { e with step := .tp }
  | .tp => { e with step := .tg }
  | .tg =>
    if e.repIdx.toNat + 1 < e.sReps.toNat then { e with repIdx := e.repIdx + 1, bitIdx := 0, step := .p1 }
    else { e with encState := .idle, repIdx := 0, bitIdx := 0, step := .p1 }

/-- Whether that pair is the last of the last frame (41_encoder.md R106). -/
def Encoder.finishing (e : Encoder) : Bool := e.step == .tg && !decide (e.repIdx.toNat + 1 < e.sReps.toNat)

theorem seqOp_of_idle {s : State} (h : s.enc.encState = .idle) : seqOp s = s := by
  simp only [seqOp, h]

theorem seqOp_of_busy {s : State} (h : s.enc.encState = .busy) :
    seqOp s =
      { s with
        txs := s.txs ++ [s.enc.pair s.lut], enc := s.enc.next,
        io := { s.io with txDone := s.enc.finishing || s.io.txDone } } := by
  unfold seqOp
  split
  case h_1 hidle => simp [h] at hidle
  case h_2 =>
    unfold Encoder.pair Encoder.next Encoder.finishing
    cases hstep : s.enc.step
    case bg =>
      by_cases hbit : s.enc.bitIdx.toNat + 1 < s.enc.sBits.toNat
      · simp only [afterBit, emitTx_enc, hbit, if_true]
        rfl
      · simp only [afterBit, emitTx_enc, hbit, if_false]
        rfl
    case tg =>
      by_cases hrep : s.enc.repIdx.toNat + 1 < s.enc.sReps.toNat
      · simp only [afterFrame, emitTx_enc, hrep, if_true]
        rfl
      · simp only [afterFrame, emitTx_enc, hrep, if_false]
        rfl
    all_goals rfl

theorem Encoder.pair_level (t : PerKind U32) (e : Encoder) : (e.pair t).level = !e.step.gapNext := by
  unfold Encoder.pair
  cases e.step <;> rfl

/-- Every pair lasts as long as the LUT says of some kind. -/
theorem Encoder.pair_dur (t : PerKind U32) (e : Encoder) : ∃ k, (e.pair t).dur = t.get k := by
  unfold Encoder.pair
  cases e.step
  case p1 | p2 | p3 | bp | tp => exact ⟨.pulse, rfl⟩
  case sg1 | sg2 => exact ⟨.syncGap, rfl⟩
  case sy => exact ⟨.sync, rfl⟩
  case tg => exact ⟨.gap, rfl⟩
  case bg =>
    cases packetBit e.sPkt e.bitIdx.toNat
    · exact ⟨.short, rfl⟩
    · exact ⟨.long, rfl⟩

/-- Settles O45, from the pair and the next position at each position. -/
theorem seqStepEmitsOnePair : Obligations.SeqStepEmitsOnePair := by
  intro s
  refine ⟨fun h => by rw [exec_seqStep, seqOp_of_idle h], fun h => ?_⟩
  refine ⟨seqOp s, s.enc.pair s.lut, rfl, ?_⟩
  rw [seqOp_of_busy h]
  refine ⟨rfl, Segment.word_toNat _, Encoder.pair_level _ _, ?dur, ?nextBit, ?lastBit, ?nextFrame, ?lastFrame, ?other,
    ?io, rfl⟩
  case dur =>
    unfold Encoder.pair
    cases s.enc.step <;> rfl
  case nextBit =>
    intro hstep hbit
    simp only [Encoder.next, hstep, if_pos hbit]
  case lastBit =>
    intro hstep hbit
    simp only [Encoder.next, hstep, if_neg (Nat.not_lt.2 hbit)]
  case nextFrame =>
    intro hstep hrep
    simp only [Encoder.next, hstep, if_pos hrep]
  case lastFrame =>
    intro hstep hrep
    simp only [Encoder.next, hstep, if_neg (Nat.not_lt.2 hrep)]
  case other =>
    intro hbg htg
    unfold Encoder.next
    cases hstep : s.enc.step
    case bg => exact absurd hstep hbg
    case tg => exact absurd hstep htg
    all_goals exact ⟨rfl, rfl⟩
  case io =>
    by_cases hend : s.enc.step = .tg ∧ s.enc.sReps.toNat ≤ s.enc.repIdx.toNat + 1
    · simp [Encoder.finishing, hend]
    · have hfin : s.enc.finishing = false := by
        rw [Bool.eq_false_iff]
        simpa [Encoder.finishing] using hend
      rw [if_neg hend, hfin]
      rfl

end Sys2Proof.Machine

/-! # Proofs: the invariant

Each update of the block keeps each part of `Inv` (43_decoder.md R155; 10_state.md R12, R14, R19 to R25, R33). -/

namespace Sys2Proof.Machine

/-! ## The parts of the state an invariant reads -/

section
variable {s t : State}

theorem CfgInv.congr (h : CfgInv s) (hcfg : t.cfg = s.cfg) (hscale : t.scale = s.scale)
    (hsession : t.session = .running → s.session = .running) (hdeploy : t.deploy = s.deploy) : CfgInv t where
  tol := by rw [hcfg]; exact h.tol
  expectedMax := by rw [hcfg]; exact h.expectedMax
  scale := by rw [hscale]; exact h.scale
  running := by rw [hcfg]; exact fun ht => h.running (hsession ht)
  deploy := by rw [hdeploy]; exact h.deploy

theorem SessionInv.congr (h : SessionInv s) (hsession : t.session = s.session)
    (herr : t.err.calFail = s.err.calFail) (hrx : t.rx = s.rx)
    (hbusy : t.enc.encState = .busy → s.enc.encState = .busy) : SessionInv t where
  calFail := by rw [hsession, herr]; exact h.calFail
  rxEn := by rw [hsession, hrx]; exact h.rxEn
  prevValid := by rw [hrx]; exact h.prevValid
  wdArmed := by rw [hrx]; exact h.wdArmed
  busy := by rw [hsession]; exact fun ht => h.busy (hbusy ht)

theorem EncInv.congr (h : EncInv s) (henc : t.enc = s.enc) (hlut : t.lut = s.lut) (htxs : t.txs = s.txs)
    (hlevel : t.txLevel = s.txLevel) : EncInv t where
  idle := by rw [henc]; exact h.idle
  rep := by rw [henc]; exact h.rep
  bit := by rw [henc]; exact h.bit
  bitsMax := by rw [henc]; exact h.bitsMax
  lut := by rw [henc, hlut]; exact h.lut
  preamble := by rw [henc]; exact h.preamble
  lastPair := by rw [henc, htxs]; exact h.lastPair
  level := by rw [hlevel]; exact h.level

theorem StreamInv.congr (h : StreamInv s) (houtReg : t.outReg = s.outReg) (hout : t.out = s.out)
    (hcount : t.cnt.pkt = s.cnt.pkt) (htxs : t.txs = s.txs) : StreamInv t where
  last := by rw [houtReg, hout]; exact h.last
  count := by rw [hcount, hout]; exact h.count
  sound := by rw [hout]; exact h.sound
  durations := by rw [htxs]; exact h.durations

/-- What no invariant reads: the transmit buffer, the operands and results, the error bits but `CALFAIL`, the counters
but `PKT_CNT`, the outputs of the step, the inputs to come. -/
theorem Inv.congr (h : Inv s)
    (ht : t =
      { s with
        pkt := t.pkt, txBits := t.txBits, txRepeats := t.txRepeats, args := t.args, res0 := t.res0,
        err := { t.err with calFail := s.err.calFail }, cnt := { t.cnt with pkt := s.cnt.pkt }, valPv := t.valPv,
        io := t.io, idle := t.idle, pending := t.pending }) : Inv t := by
  rw [ht]
  exact ⟨h.dec, h.cfg.congr rfl rfl id rfl, h.session.congr rfl rfl rfl id, h.enc.congr rfl rfl rfl rfl,
    h.stream.congr rfl rfl rfl rfl⟩

end

/-! ## The decoder -/

/-- A sum stays within its count times the greatest duration, as long as the count is exact (10_state.md R12). -/
theorem addSum_le {sum : BitVec 40} {cnt : BitVec 8} (d : U32)
    (h : cnt.toNat < 255 → sum.toNat ≤ cnt.toNat * (2 ^ 32 - 1)) :
    (satInc cnt).toNat < 255 → (addSum sum d).toNat ≤ (satInc cnt).toNat * (2 ^ 32 - 1) := by
  have hd := d.isLt
  rw [satInc_toNat, addSum_toNat]
  intro hcnt
  have hsum := h (by omega)
  have hmod := Nat.mod_le (sum.toNat + d.toNat) (2 ^ 40)
  omega

/-- A code of as many bits as were shifted in (43_decoder.md R155). -/
theorem shiftIn_lt {code : BitVec 80} {bits : BitVec 8} (b : Bool)
    (h : bits.toNat ≤ 80 → code.toNat < 2 ^ bits.toNat) :
    (satInc bits).toNat ≤ 80 → (shiftIn code b).toNat < 2 ^ (satInc bits).toNat := by
  rw [satInc_toNat, shiftIn_toNat]
  intro hbits
  have hmin : min (bits.toNat + 1) (2 ^ 8 - 1) = bits.toNat + 1 := by omega
  have hcode := h (by omega)
  have hb : b.toNat ≤ 1 := b.toNat_le
  have hmod := Nat.mod_le (2 * code.toNat + b.toNat) (2 ^ 80)
  rw [hmin, Nat.pow_succ]
  omega

/-- The sync counter counts up to 2 (43_decoder.md R140). -/
theorem syncCount_succ_toNat {n : BitVec 2} (hle : n.toNat ≤ 2) (hne : n ≠ 2) : (n + 1).toNat = n.toNat + 1 := by
  have hne' : n.toNat ≠ 2 := fun he => hne (BitVec.eq_of_toNat_eq he)
  rw [BitVec.toNat_add]
  exact Nat.mod_eq_of_lt (by simp; omega)

theorem decInv_resetState : DecInv .resetState := by
  constructor <;> simp [Decoder.resetState]

section
variable {d : Decoder} (h : DecInv d)
include h

theorem DecInv.pulse (w : U32) (hphase : d.phase = .expectPulse) :
    DecInv { d with sumPulse := addSum d.sumPulse w, cntPulse := satInc d.cntPulse, phase := .expectInterval } where
  syncLe := h.syncLe
  wait := h.wait
  collect := h.collect
  bits := h.bits
  code := h.code
  pulses := by
    have hp := h.pulses
    simp only [hphase] at hp
    simp only [satInc_toNat, hp]
    omega
  sumPulse := addSum_le w h.sumPulse
  sumShort := h.sumShort
  sumLong := h.sumLong

theorem DecInv.syncGap (hstate : d.state = .syncWait) (hphase : d.phase = .expectInterval)
    (hsync : d.syncCount ≠ 2) : DecInv { d with phase := .expectPulse, syncCount := d.syncCount + 1 } := by
  have hnext := syncCount_succ_toNat h.syncLe hsync
  have hne : d.syncCount.toNat ≠ 2 := fun he => hsync (BitVec.eq_of_toNat_eq he)
  have hle := h.syncLe
  exact
    { syncLe := by simp only [hnext]; omega
      wait := h.wait
      collect := by simp [hstate]
      bits := h.bits
      code := h.code
      pulses := by
        have hp := h.pulses
        simp only [hphase, hstate] at hp
        simp only [hstate, hnext, hp, Nat.add_zero]
      sumPulse := h.sumPulse
      sumShort := h.sumShort
      sumLong := h.sumLong }

theorem DecInv.sync (hstate : d.state = .syncWait) (hphase : d.phase = .expectInterval) (hsync : d.syncCount = 2) :
    DecInv { d with phase := .expectPulse, state := .dataCollect, bitCount := 0, code := 0, syncCount := 0 } := by
  obtain ⟨_, _, hcntShort, hcntLong, _, _⟩ := h.wait hstate
  exact
    { syncLe := by simp
      wait := by simp
      collect := fun _ => rfl
      bits := by simp [hcntShort, hcntLong]
      code := by simp
      pulses := by
        have hp := h.pulses
        simp only [hphase, hstate, hsync] at hp
        exact hp
      sumPulse := h.sumPulse
      sumShort := h.sumShort
      sumLong := h.sumLong }

theorem DecInv.short (w : U32) (hstate : d.state = .dataCollect) (hphase : d.phase = .expectInterval) :
    DecInv
      { d with
        phase := .expectPulse, bitCount := satInc d.bitCount, code := shiftIn d.code false,
        sumShort := addSum d.sumShort w, cntShort := satInc d.cntShort } where
  syncLe := h.syncLe
  wait := by simp [hstate]
  collect := h.collect
  bits := by
    have hb := h.bits
    simp only [satInc_toNat]
    omega
  code := shiftIn_lt false h.code
  pulses := by
    have hp := h.pulses
    simp only [hphase, hstate] at hp
    simp only [hstate, satInc_toNat]
    omega
  sumPulse := h.sumPulse
  sumShort := addSum_le w h.sumShort
  sumLong := h.sumLong

theorem DecInv.long (w : U32) (hstate : d.state = .dataCollect) (hphase : d.phase = .expectInterval) :
    DecInv
      { d with
        phase := .expectPulse, bitCount := satInc d.bitCount, code := shiftIn d.code true,
        sumLong := addSum d.sumLong w, cntLong := satInc d.cntLong } where
  syncLe := h.syncLe
  wait := by simp [hstate]
  collect := h.collect
  bits := by
    have hb := h.bits
    simp only [satInc_toNat]
    omega
  code := shiftIn_lt true h.code
  pulses := by
    have hp := h.pulses
    simp only [hphase, hstate] at hp
    simp only [hstate, satInc_toNat]
    omega
  sumPulse := h.sumPulse
  sumShort := h.sumShort
  sumLong := addSum_le w h.sumLong

end

theorem evPulse_decInv (w : U32) {s : State} (h : DecInv s.dec) : DecInv (evPulse w s).dec := by
  rcases evPulse_cases w s with ⟨_, e⟩ | ⟨hphase, e⟩ <;> rw [e]
  · exact decInv_resetState
  · exact h.pulse w hphase

theorem evInterval_decInv (k : Option Kind) (w : U32) {s : State} (h : DecInv s.dec) :
    DecInv (evInterval k w s).dec := by
  rcases evInterval_cases k w s with e | ⟨hp, hs, _, hn, e⟩ | ⟨hp, hs, _, hn, e⟩ | ⟨hp, hs, _, e⟩ | ⟨hp, hs, _, e⟩ |
    ⟨_, _, _, _, e⟩ | ⟨_, _, _, _, e⟩ <;> rw [e]
  · exact decInv_resetState
  · exact h.syncGap hs hp hn
  · exact h.sync hs hp hn
  · exact h.short w hs hp
  · exact h.long w hs hp
  · exact decInv_resetState
  · exact decInv_resetState

/-! ## The streams -/

theorem pvResult_sound (ok : Bool) (f0 f1 f2 f3 f4 : U32) : (pvResult ok f0 f1 f2 f3 f4).Sound := by
  cases ok <;> simp [PvResult.Sound, pvResult, errorCode]

/-- Every validator result is sound (44_validator.md R179, R180). -/
theorem validateResult_sound (d : Deployment) (c : Cfg) (code : BitVec 80) (n : BitVec 8) :
    (validateResult d c code n).Sound := by
  unfold validateResult
  split
  · simp [PvResult.Sound, pvLengthMismatch, PvResult.zero, errorCode]
  · cases c.variant <;> exact pvResult_sound ..

theorem accept_streamInv {s : State} (h : StreamInv s) : StreamInv (accept s) := by
  rw [accept_eq]
  exact
    { last := by simp
      count := by
        simp only [satInc_toNat, h.count, List.length_append, List.length_singleton]
        omega
      sound := by
        intro r hr
        rcases List.mem_append.1 hr with hr | hr
        · exact h.sound r hr
        · rw [List.mem_singleton.1 hr]
          exact validateResult_sound ..
      durations := h.durations }

theorem evInterval_streamInv (k : Option Kind) (w : U32) {s : State} (h : StreamInv s) :
    StreamInv (evInterval k w s) := by
  rcases evInterval_cases k w s with e | ⟨_, _, _, _, e⟩ | ⟨_, _, _, _, e⟩ | ⟨_, _, _, e⟩ | ⟨_, _, _, e⟩ |
    ⟨_, _, _, _, e⟩ | ⟨_, _, _, _, e⟩ <;> rw [e]
  case inr.inr.inr.inr.inr.inl => exact (accept_streamInv h).congr rfl rfl rfl rfl
  all_goals exact h.congr rfl rfl rfl rfl

/-- An event touches what its own parts of the invariant read and nothing else of it. -/
theorem evInterval_inv (k : Option Kind) (w : U32) {s : State} (h : Inv s) : Inv (evInterval k w s) where
  dec := evInterval_decInv k w h.dec
  cfg := by rw [evInterval_frame]; exact h.cfg.congr rfl rfl id rfl
  session := by rw [evInterval_frame]; exact h.session.congr rfl rfl rfl id
  enc := by rw [evInterval_frame]; exact h.enc.congr rfl rfl rfl rfl
  stream := evInterval_streamInv k w h.stream

/-- What a pulse event never touches (43_decoder.md R137, R138). -/
theorem evPulse_frame (w : U32) (s : State) :
    evPulse w s = { s with dec := (evPulse w s).dec, cnt := { s.cnt with viol := (evPulse w s).cnt.viol } } := by
  rcases evPulse_cases w s with ⟨_, e⟩ | ⟨_, e⟩ <;> rw [e]
  rfl

theorem evPulse_inv (w : U32) {s : State} (h : Inv s) : Inv (evPulse w s) where
  dec := evPulse_decInv w h.dec
  cfg := by rw [evPulse_frame]; exact h.cfg.congr rfl rfl id rfl
  session := by rw [evPulse_frame]; exact h.session.congr rfl rfl rfl id
  enc := by rw [evPulse_frame]; exact h.enc.congr rfl rfl rfl rfl
  stream := by rw [evPulse_frame]; exact h.stream.congr rfl rfl rfl rfl

/-! ## The front end and the session -/

/-- A new content of the receive front end (10_state.md R28). -/
theorem Inv.setRx {s : State} (h : Inv s) (rx : FrontEnd) (idle : Nat) (hrxEn : rx.rxEn = true → s.session = .running)
    (hprev : rx.prevValid = true → rx.rxEn = true) (harmed : rx.wdArmed = true → rx.prevValid = true) :
    Inv { s with rx := rx, idle := idle } where
  dec := h.dec
  cfg := h.cfg.congr rfl rfl id rfl
  session := ⟨h.session.calFail, hrxEn, hprev, harmed, h.session.busy⟩
  enc := h.enc.congr rfl rfl rfl rfl
  stream := h.stream.congr rfl rfl rfl rfl

theorem FrontEndStep.inv {s s' : State} (hstep : FrontEndStep s s') (h : Inv s) : Inv s' := by
  rcases hstep with rfl | ⟨hrun, hen, ts, rfl⟩ | rfl
  · exact h
  · exact h.setRx _ _ (fun _ => hrun) (fun _ => hen) (fun _ => rfl)
  · exact h.setRx _ _ h.session.rxEn h.session.prevValid (by simp)

theorem decReset_inv {s : State} (h : Inv s) : Inv (decReset s) :=
  ⟨decInv_resetState, h.cfg.congr rfl rfl id rfl, h.session.congr rfl rfl rfl id, h.enc.congr rfl rfl rfl rfl,
    h.stream.congr rfl rfl rfl rfl⟩

theorem stopRx_inv {s : State} (h : Inv s) : Inv (stopRx s) :=
  decReset_inv (h.setRx _ s.idle (by simp) (by simp) (by simp))

/-- The encoder at rest (45_host_control.md R201). -/
theorem stopTx_encInv {s : State} : EncInv (stopTx s) := by
  constructor <;> simp [SeqPos.inPreamble]

theorem stopTx_inv {s : State} (h : Inv s) : Inv (stopTx s) :=
  ⟨h.dec, h.cfg.congr rfl rfl id rfl, h.session.congr rfl rfl rfl (by simp), stopTx_encInv,
    h.stream.congr rfl rfl rfl rfl⟩

/-- In Halted nothing receives, is armed or is Busy (60_exceptions.md R221). -/
theorem raise_calibration_inv {s : State} (h : Inv s) : Inv (raise .calibrationFailure s) where
  dec := decInv_resetState
  cfg := h.cfg.congr rfl rfl (by simp) rfl
  session := by constructor <;> simp
  enc := (stopTx_encInv (s := s)).congr rfl rfl rfl rfl
  stream := h.stream.congr rfl rfl rfl rfl

theorem lock_inv {s : State} (h : Inv s) (hconfig : s.session = .config) (hnominal : ∀ k, s.cfg.nominal.get k ≠ 0)
    (hbits : s.cfg.expectedBits ≠ 0) : Inv { s with session := .running } where
  dec := h.dec
  cfg :=
    { tol := h.cfg.tol, expectedMax := h.cfg.expectedMax, scale := h.cfg.scale, deploy := h.cfg.deploy
      running := fun _ =>
        ⟨fun k hk => hnominal k (BitVec.eq_of_toNat_eq hk),
          Nat.pos_of_ne_zero fun hk => hbits (BitVec.eq_of_toNat_eq hk)⟩ }
  session :=
    { calFail := by simpa [hconfig] using h.session.calFail
      rxEn := fun _ => rfl
      prevValid := h.session.prevValid
      wdArmed := h.session.wdArmed
      busy := fun _ => rfl }
  enc := h.enc.congr rfl rfl rfl rfl
  stream := h.stream.congr rfl rfl rfl rfl

/-! ## The configuration -/

/-- What a stored register never touches (45_host_control.md R195). -/
theorem Reg.store_frame (r : Reg) (data : U32) (s : State) :
    r.store data s =
      { s with
        cfg := (r.store data s).cfg, scale := (r.store data s).scale, txBits := (r.store data s).txBits,
        txRepeats := (r.store data s).txRepeats, pkt := (r.store data s).pkt, args := (r.store data s).args } := by
  cases r <;> rfl

/-- Outside Config a HOST write stores no configuration register (45_host_control.md R197). -/
theorem Reg.store_cfg_of_ne_config {r : Reg} {s : State} (data : U32) (hw : r.writable s.session = true)
    (hs : s.session ≠ .config) : (r.store data s).cfg = s.cfg ∧ (r.store data s).scale = s.scale := by
  cases hses : s.session <;> rw [hses] at hw hs
  case config => exact absurd rfl hs
  case halted => cases r <;> cases hw
  case running =>
    cases r
    case expectedBits | wdUs | scale | pvcfg | markers | nominal | tol => cases hw
    all_goals exact ⟨rfl, rfl⟩

/-- A legal write leaves legal values (45_host_control.md R195). -/
theorem Reg.store_cfg_legal {r : Reg} {data : U32} {s : State} (hl : r.legal data = true)
    (htol : ∀ k, (s.cfg.tol.get k).toNat ≤ 99) (hbits : s.cfg.expectedBits.toNat ≤ 80) (hscale : s.scale.toNat ≠ 0) :
    (∀ k, ((r.store data s).cfg.tol.get k).toNat ≤ 99) ∧ (r.store data s).cfg.expectedBits.toNat ≤ 80 ∧
      (r.store data s).scale.toNat ≠ 0 := by
  cases r
  case tol j =>
    refine ⟨fun k => ?_, hbits, hscale⟩
    have hdata : data.toNat ≤ 99 := of_decide_eq_true hl
    simp only [Reg.store, PerKind.get_set]
    split
    · rw [BitVec.toNat_setWidth]
      omega
    · exact htol k
  case expectedBits =>
    refine ⟨htol, ?_, hscale⟩
    have hdata : 1 ≤ data.toNat ∧ data.toNat ≤ 80 := by simpa [Reg.legal] using hl
    simp only [Reg.store, BitVec.toNat_setWidth]
    omega
  case scale =>
    have hdata : data ≠ 0 := bne_iff_ne.1 hl
    exact ⟨htol, hbits, fun hk => hdata (BitVec.eq_of_toNat_eq hk)⟩
  all_goals exact ⟨htol, hbits, hscale⟩

theorem Reg.store_cfgInv {r : Reg} {data : U32} {s : State} (h : CfgInv s) (hw : r.writable s.session = true)
    (hl : r.legal data = true) : CfgInv (r.store data s) := by
  obtain ⟨htol, hbits, hscale⟩ := Reg.store_cfg_legal hl h.tol h.expectedMax h.scale
  have hsession : (r.store data s).session = s.session := by rw [r.store_frame]
  have hdeploy : (r.store data s).deploy = s.deploy := by rw [r.store_frame]
  refine ⟨htol, hbits, hscale, ?_, hdeploy ▸ h.deploy⟩
  intro hrun
  rw [hsession] at hrun
  rw [(Reg.store_cfg_of_ne_config data hw (by simp [hrun])).1]
  exact h.running hrun

theorem Reg.store_inv {r : Reg} {data : U32} {s : State} (h : Inv s) (hw : r.writable s.session = true)
    (hl : r.legal data = true) : Inv (r.store data s) where
  dec := by rw [r.store_frame]; exact h.dec
  cfg := Reg.store_cfgInv h.cfg hw hl
  session := by rw [r.store_frame]; exact h.session.congr rfl rfl rfl id
  enc := by rw [r.store_frame]; exact h.enc.congr rfl rfl rfl rfl
  stream := by rw [r.store_frame]; exact h.stream.congr rfl rfl rfl rfl

theorem setScale_inv {s : State} (h : Inv s) {q : Nat} (hq : q ≠ 0) (hlt : q < 2 ^ 32) :
    Inv { s with scale := BitVec.ofNat 32 q } where
  dec := h.dec
  cfg :=
    { tol := h.cfg.tol, expectedMax := h.cfg.expectedMax, running := h.cfg.running, deploy := h.cfg.deploy
      scale := by rwa [BitVec.toNat_ofNat, Nat.mod_eq_of_lt hlt] }
  session := h.session.congr rfl rfl rfl id
  enc := h.enc.congr rfl rfl rfl rfl
  stream := h.stream.congr rfl rfl rfl rfl

/-! ## The encoder -/

theorem PerKind.get_map {α β : Type} (f : α → β) (p : PerKind α) (k : Kind) : (p.map f).get k = f (p.get k) := by
  cases k <;> rfl

/-- The LUT of an admitted ENCODE holds the scaled durations (41_encoder.md R100). -/
theorem encode_lut_toNat {s : State} {k : Kind} (h : scaled s.scale (s.cfg.nominal.get k) < 2 ^ 32) :
    (((scaledAll s).map (BitVec.ofNat 32)).get k).toNat = scaled s.scale (s.cfg.nominal.get k) := by
  rw [PerKind.get_map, scaledAll, PerKind.get_map, BitVec.toNat_ofNat, Nat.mod_eq_of_lt h]

/-- The state in which an admitted ENCODE leaves the block (41_encoder.md R100). -/
def encodeStart (s : State) : State :=
  { s with
    lut := (scaledAll s).map (BitVec.ofNat 32)
    enc :=
      { encState := .busy, repIdx := 0, step := .p1, bitIdx := 0, sPkt := s.pkt.word, sBits := s.txBits,
        sReps := s.txRepeats } }

theorem encodeOp_eq (s : State) : encodeOp s = gated (encodeAdmitted s) encodeStart s := rfl

theorem encodeStart_inv {s : State} (h : Inv s) (hadm : encodeAdmitted s = true) : Inv (encodeStart s) := by
  obtain ⟨hrun, _, hbitsMin, hbitsMax, hrepsMin, _, hdur⟩ := (encodeAdmitted_iff s).1 hadm
  obtain ⟨hmin, _, hmax, hreps, _, _⟩ := h.cfg.deploy
  refine ⟨h.dec, h.cfg.congr rfl rfl id rfl, ?session, ?enc, h.stream.congr rfl rfl rfl rfl⟩
  case session => exact ⟨h.session.calFail, h.session.rxEn, h.session.prevValid, h.session.wdArmed, fun _ => hrun⟩
  case enc =>
    refine
      { idle := by simp [encodeStart]
        rep := fun _ => Nat.lt_of_lt_of_le hreps hrepsMin
        bit := fun _ => Nat.lt_of_lt_of_le hmin hbitsMin
        bitsMax := fun _ => Nat.le_trans hbitsMax hmax
        lut := fun _ k => ?_
        preamble := fun _ => rfl
        lastPair := fun hp => absurd rfl hp
        level := h.enc.level }
    rw [encodeStart, encode_lut_toNat (hdur k).2]
    exact Nat.one_le_iff_ne_zero.1 (hdur k).1

/-- The position of a transmission stays within its operands (10_state.md R14, 41_encoder.md R105). -/
structure Encoder.InRange (e : Encoder) : Prop where
  rep : e.repIdx.toNat < e.sReps.toNat
  bit : e.bitIdx.toNat < e.sBits.toNat
  preamble : e.step.inPreamble = true → e.bitIdx = 0

/-- An encoder that has finished has no position; any other stays in range. -/
theorem Encoder.next_inRange {e : Encoder} (h : e.InRange) (hbusy : e.encState = .busy) :
    (e.next.encState = .idle ∧ e.next.repIdx = 0 ∧ e.next.bitIdx = 0 ∧ e.next.step = .p1) ∨
      (e.next.encState = .busy ∧ e.next.InRange) := by
  obtain ⟨hrep, hbit, hpre⟩ := h
  unfold Encoder.next
  cases hstep : e.step
  case bg =>
    dsimp only
    split
    · next hnext =>
      have hle : (e.bitIdx + 1).toNat ≤ e.bitIdx.toNat + 1 := Nat.mod_le _ _
      exact .inr ⟨hbusy, hrep, Nat.lt_of_le_of_lt hle hnext, by simp [SeqPos.inPreamble]⟩
    · exact .inr ⟨hbusy, hrep, hbit, by simp [SeqPos.inPreamble]⟩
  case tg =>
    dsimp only
    split
    · next hnext =>
      have hle : (e.repIdx + 1).toNat ≤ e.repIdx.toNat + 1 := Nat.mod_le _ _
      have hpos : (0#7).toNat < e.sBits.toNat := Nat.lt_of_le_of_lt (Nat.zero_le _) hbit
      exact .inr ⟨hbusy, Nat.lt_of_le_of_lt hle hnext, hpos, fun _ => rfl⟩
    · exact .inl ⟨rfl, rfl, rfl, rfl⟩
  all_goals
    rw [hstep] at hpre
    exact .inr ⟨hbusy, hrep, hbit, by simp_all [SeqPos.inPreamble]⟩

/-- A pulse is followed by a gap and a gap by a pulse (41_encoder.md R104). -/
theorem Encoder.next_gapNext (e : Encoder) : e.next.step.gapNext = !e.step.gapNext := by
  unfold Encoder.next
  cases e.step
  case bg | tg => dsimp only; split <;> rfl
  all_goals rfl

/-- The operands stay latched. -/
theorem Encoder.next_latched (e : Encoder) :
    e.next.sPkt = e.sPkt ∧ e.next.sBits = e.sBits ∧ e.next.sReps = e.sReps := by
  unfold Encoder.next
  cases e.step
  case bg | tg => dsimp only; split <;> exact ⟨rfl, rfl, rfl⟩
  all_goals exact ⟨rfl, rfl, rfl⟩

theorem seqOp_encInv {s : State} (h : EncInv s) (hbusy : s.enc.encState = .busy) : EncInv (seqOp s) := by
  have hnext := Encoder.next_inRange ⟨h.rep hbusy, h.bit hbusy, h.preamble⟩ hbusy
  rw [seqOp_of_busy hbusy]
  refine
    { idle := ?idle
      rep := ?rep
      bit := ?bit
      bitsMax := fun _ => by rw [(s.enc.next_latched).2.1]; exact h.bitsMax hbusy
      lut := fun _ => h.lut hbusy
      preamble := ?preamble
      lastPair := fun _ => by simp [Encoder.pair_level, Encoder.next_gapNext]
      level := h.level }
  all_goals rcases hnext with ⟨hstate, hposition⟩ | ⟨hstate, hrange⟩
  case idle.inl => exact fun _ => hposition
  case idle.inr => simp [hstate]
  case rep.inl | bit.inl => simp [hstate]
  case rep.inr => exact fun _ => hrange.rep
  case bit.inr => exact fun _ => hrange.bit
  case preamble.inl => exact fun _ => hposition.2.1
  case preamble.inr => exact hrange.preamble

theorem seqOp_streamInv {s : State} (h : StreamInv s) (henc : EncInv s) (hbusy : s.enc.encState = .busy) :
    StreamInv (seqOp s) := by
  rw [seqOp_of_busy hbusy]
  refine ⟨h.last, h.count, h.sound, fun g hg => ?_⟩
  rcases List.mem_append.1 hg with hg | hg
  · exact h.durations g hg
  · obtain ⟨k, hk⟩ := s.enc.pair_dur s.lut
    rw [List.mem_singleton.1 hg, hk]
    exact henc.lut hbusy k

theorem seqOp_inv {s : State} (h : Inv s) : Inv (seqOp s) := by
  cases hstate : s.enc.encState with
  | idle => rwa [seqOp_of_idle hstate]
  | busy =>
    refine ⟨?dec, ?cfg, ?session, seqOp_encInv h.enc hstate, seqOp_streamInv h.stream h.enc hstate⟩
    all_goals rw [seqOp_of_busy hstate]
    case dec => exact h.dec
    case cfg => exact h.cfg.congr rfl rfl id rfl
    case session => exact h.session.congr rfl rfl rfl fun _ => hstate

/-! ## Reset -/

theorem inv_reset {d : Deployment} (hd : d.Legal) (inputs : List Stimulus) :
    Inv { State.reset with deploy := d, pending := inputs } where
  dec := decInv_resetState
  cfg :=
    { tol := fun k => by cases k <;> exact Nat.zero_le 99
      expectedMax := Nat.zero_le 80
      scale := (by decide : State.reset.scale.toNat ≠ 0)
      running := by simp [State.reset]
      deploy := hd }
  session := by constructor <;> simp [State.reset]
  enc := by constructor <;> simp [State.reset]
  stream := by constructor <;> simp [State.reset]

theorem deployment_default_legal : Deployment.default.Legal := by
  simp [Deployment.Legal, Deployment.default]

/-- Settles O8: the default deployment, nothing to come. -/
theorem invariantHoldsAfterReset : Obligations.InvariantHoldsAfterReset := inv_reset deployment_default_legal []

/-! ## The step -/

theorem raiseForResult_inv (r : PvResult) {s : State} (h : Inv s) : Inv (raiseForResult r s) := by
  rcases raiseForResult_cases r s with ⟨_, e⟩ | ⟨_, e⟩
  all_goals rw [e]
  · exact h.congr rfl
  · exact h

theorem exec_inv (i : Instr) {s t : State} (h : Inv s) (ht : exec i s = .next t) : Inv t := by
  by_cases hreset : i = .reset
  · subst hreset
    rw [exec_reset] at ht
    injection ht with ht
    rw [← ht]
    exact inv_reset h.cfg.deploy s.pending
  · refine exec_induction (fun s t => Inv s → Inv t) i hreset s id ?front ?interval ?pulse ?read ?clear ?store
      ?config ?halt ?scale ?lock ?rxStart ?rxStop ?txStop ?encode ?validate ?frame ?classify ?seq t ht h
    case front => exact fun s' hs' h => hs'.inv h
    case interval => exact fun k w s' hs' h => evInterval_inv k w (hs'.inv h)
    case pulse => exact fun w s' hs' h => evPulse_inv w (hs'.inv h)
    case read => exact fun v h => h.congr rfl
    case clear => exact fun d h => h.congr rfl
    case store => exact fun r data hw hl h => Reg.store_inv h hw hl
    case config => exact fun h => h.congr rfl
    case halt => exact fun _ _ h => raise_calibration_inv h
    case scale => exact fun _ hq hlt h => setScale_inv h hq hlt
    case lock => exact fun _ hc hn hb h => lock_inv h hc hn hb
    case rxStart => exact fun hrun h => decReset_inv (h.setRx _ s.idle (fun _ => hrun) (by simp) (by simp))
    case rxStop => exact fun _ h => stopRx_inv h
    case txStop => exact fun _ h => stopTx_inv h
    case encode => exact fun hadm h => encodeStart_inv h hadm
    case validate => exact fun r h => (raiseForResult_inv r h).congr rfl
    case frame => exact fun p b h => h.congr rfl
    case classify => exact fun r h => h.congr rfl
    case seq => exact seqOp_inv

/-- Settles O9: whichever operation the step runs, it starts from a state that differs from `s` in no part of the
invariant. -/
theorem everyStepKeepsTheInvariant : Obligations.EveryStepKeepsTheInvariant := by
  intro s t h ht
  have hquiet : Inv (quietPort s) := h.congr rfl
  rcases step_cases s with ⟨_, _, e⟩ | ⟨_, e⟩ | ⟨_, _, _, e⟩ | ⟨stim, rest, _, _, e⟩ <;> rw [e] at ht
  · exact exec_inv _ hquiet ht
  · exact exec_inv _ hquiet ht
  · injection ht with ht
    rwa [← ht]
  · exact exec_inv _ (hquiet.congr rfl) ht

end Sys2Proof.Machine

/-! # Proofs: the step and what every operation keeps

Which operation a step runs (logs 1 to 3); what no operation but RESET changes (10_state.md R19, R24, R29 to R31;
45_host_control.md R197); the averages at an acceptance (43_decoder.md R155 (f)). -/

namespace Sys2Proof.Machine

/-! ## The step -/

section
variable {s : State}

theorem step_of_input {stim : Stimulus} {rest : List Stimulus} (hp : s.pending = stim :: rest)
    (hdue : ¬(s.wdReady = true ∧ s.cfg.wdUs.toNat < s.idle + stim.delay)) :
    step s =
      exec (decode s.cfg.variant stim.word)
        { quietPort s with pending := rest, idle := s.idle + stim.delay } := by
  have hb : ¬(s.wdReady && decide (s.cfg.wdUs.toNat < s.idle + stim.delay)) = true := by simpa using hdue
  rw [step, hp]
  exact if_neg hb

theorem step_of_lateInput {stim : Stimulus} {rest : List Stimulus} (hp : s.pending = stim :: rest)
    (hready : s.wdReady = true) (hlate : s.cfg.wdUs.toNat < s.idle + stim.delay) :
    step s = exec .evWd (quietPort s) := by
  have hb : (s.wdReady && decide (s.cfg.wdUs.toNat < s.idle + stim.delay)) = true := by simp [hready, hlate]
  rw [step, hp]
  exact if_pos hb

theorem step_of_busy (hp : s.pending = []) (hbusy : s.enc.encState = .busy) :
    step s = exec .seqStep (quietPort s) := by
  rw [step, hp]
  exact if_pos hbusy

theorem step_of_wdReady (hp : s.pending = []) (hidle : s.enc.encState = .idle) (hready : s.wdReady = true) :
    step s = exec .evWd (quietPort s) := by
  have hb : s.enc.encState ≠ .busy := by simp [hidle]
  rw [step, hp]
  exact (if_neg hb).trans (if_pos hready)

theorem step_of_rest (hp : s.pending = []) (hidle : s.enc.encState = .idle) (hready : s.wdReady = false) :
    step s = .next (quietPort s) := by
  have hb : s.enc.encState ≠ .busy := by simp [hidle]
  rw [step, hp]
  exact (if_neg hb).trans (if_neg (Bool.eq_false_iff.1 hready))

end

/-- Settles O4. -/
theorem stepRunsDecodedOperation : Obligations.StepRunsDecodedOperation := fun s stim _ hp hdue =>
  ⟨(decode_wellFormed s.cfg.variant stim.word).1, step_of_input hp hdue⟩

/-- Settles O6. -/
theorem stepWithNoInput : Obligations.StepWithNoInput := fun _ hp =>
  ⟨step_of_busy hp, step_of_wdReady hp, step_of_rest hp⟩

/-- Every operation has a next state (60_exceptions.md R220). -/
theorem exec_total (i : Instr) (s : State) : ∃ t, exec i s = .next t := by
  cases i <;> exact ⟨_, rfl⟩

/-- Settles O7: each thing a step does is an operation or a rest. -/
theorem nothingStopsTheBlock : Obligations.NothingStopsTheBlock := by
  refine ⟨exec_total, fun s => ?_⟩
  rcases step_cases s with ⟨_, _, e⟩ | ⟨_, e⟩ | ⟨_, _, _, e⟩ | ⟨_, _, _, _, e⟩ <;> rw [e]
  · exact exec_total _ _
  · exact exec_total _ _
  · exact ⟨_, rfl⟩
  · exact exec_total _ _

/-- A Gap ends every attempt, accepted, discarded or out of turn (43_decoder.md R139, R144, R152). -/
theorem evInterval_gap_dec (d : U32) (s : State) : (evInterval (some .gap) d s).dec = .resetState := by
  rcases evInterval_cases (some .gap) d s with e | ⟨_, _, hk, _⟩ | ⟨_, _, hk, _⟩ | ⟨_, _, hk, _⟩ | ⟨_, _, hk, _⟩ |
    ⟨_, _, _, _, e⟩ | ⟨_, _, _, _, e⟩
  case inl | inr.inr.inr.inr.inr.inl | inr.inr.inr.inr.inr.inr => rw [e]; rfl
  all_goals cases hk

/-- The watchdog disarms itself, ends the attempt and leaves the front end and the inputs to come. -/
theorem evWd_effect (s : State) :
    (evWd s).dec = .resetState ∧ (evWd s).rx = { s.rx with wdArmed := false } ∧ (evWd s).pending = s.pending ∧
      (evWd s).idle = s.idle := by
  refine ⟨evInterval_gap_dec _ _, ?_⟩
  rw [evWd, evInterval_frame]
  exact ⟨rfl, rfl, rfl⟩

/-- Settles O5: the conditions are the watchdog's own, and its Gap ends the attempt. -/
theorem watchdogGoesBeforeALateInput : Obligations.WatchdogGoesBeforeALateInput := by
  intro s stim rest hp hrun hen harmed hstate hbits hlate
  have hready : s.wdReady = true := (wdReady_iff s).2 ⟨hrun, hen, harmed, hstate, hbits⟩
  obtain ⟨hdec, hrx, hpending, hidle⟩ := evWd_effect { s with io := .quiet }
  refine ⟨evWd { s with io := .quiet }, step_of_lateInput hp hready hlate, rfl, hpending, hidle, ?_, hdec⟩
  rw [hrx]

/-! ## The frames -/

/-- What the receive channel leaves as it is (20_memory.md R51). -/
def ReceiveFrame (s t : State) : Prop :=
  t =
    { s with
      dec := t.dec, rx := t.rx, idle := t.idle, out := t.out, outReg := t.outReg, cnt := t.cnt,
      io := { s.io with pktReady := t.io.pktReady }, err := { s.err with chkFail := t.err.chkFail } }

theorem FrontEndStep.receiveFrame {s s' : State} (h : FrontEndStep s s') : ReceiveFrame s s' := by
  rcases h with rfl | ⟨_, _, _, rfl⟩ | rfl <;> rfl

theorem evInterval_receiveFrame (k : Option Kind) (d : U32) {s s' : State} (h : FrontEndStep s s') :
    ReceiveFrame s (evInterval k d s') := by
  unfold ReceiveFrame
  rw [evInterval_frame]
  rcases h with rfl | ⟨_, _, _, rfl⟩ | rfl <;> rfl

theorem evPulse_receiveFrame (d : U32) {s s' : State} (h : FrontEndStep s s') : ReceiveFrame s (evPulse d s') := by
  unfold ReceiveFrame
  rw [evPulse_frame]
  rcases h with rfl | ⟨_, _, _, rfl⟩ | rfl <;> rfl

/-- What a sequencer step leaves as it is (41_encoder.md R107). -/
theorem seqOp_frame (s : State) :
    seqOp s =
      { s with
        txs := (seqOp s).txs, enc := (seqOp s).enc, io := { s.io with txDone := (seqOp s).io.txDone } } := by
  cases h : s.enc.encState with
  | idle => rw [seqOp_of_idle h]
  | busy => rw [seqOp_of_busy h]

/-- What reporting a validator result leaves as it is (60_exceptions.md R224). -/
theorem raiseForResult_frame (r : PvResult) (s : State) :
    raiseForResult r s =
      { s with
        err := { s.err with chkFail := (raiseForResult r s).err.chkFail },
        cnt := { s.cnt with chkFail := (raiseForResult r s).cnt.chkFail } } := by
  rcases raiseForResult_cases r s with ⟨_, e⟩ | ⟨_, e⟩ <;> rw [e]
  rfl

/-! ## The configuration after LOCK -/

/-- The deployment never changes, the configuration only in Config (45_host_control.md R197, log 9). -/
def ConfigKept (s t : State) : Prop :=
  t.deploy = s.deploy ∧ (s.session ≠ .config → t.cfg = s.cfg ∧ t.scale = s.scale)

theorem ReceiveFrame.configKept {s t : State} (h : ReceiveFrame s t) : ConfigKept s t := by
  unfold ReceiveFrame at h
  rw [h]
  exact ⟨rfl, fun _ => ⟨rfl, rfl⟩⟩

theorem exec_configKept {i : Instr} (hreset : i ≠ .reset) {s t : State} (ht : exec i s = .next t) :
    ConfigKept s t := by
  have kept : ∀ t : State, t.deploy = s.deploy → t.cfg = s.cfg → t.scale = s.scale → ConfigKept s t :=
    fun _ hd hc hs => ⟨hd, fun _ => ⟨hc, hs⟩⟩
  refine exec_induction ConfigKept i hreset s ?refl ?front ?interval ?pulse ?read ?clear ?store ?config ?halt ?scale
    ?lock ?rxStart ?rxStop ?txStop ?encode ?validate ?frame ?classify ?seq t ht
  case front => exact fun s' hs' => hs'.receiveFrame.configKept
  case interval => exact fun k d s' hs' => (evInterval_receiveFrame k d hs').configKept
  case pulse => exact fun d s' hs' => (evPulse_receiveFrame d hs').configKept
  case store =>
    intro r data hw _
    exact ⟨by rw [r.store_frame], Reg.store_cfg_of_ne_config data hw⟩
  case scale => exact fun hs _ _ => ⟨rfl, fun hne => absurd hs hne⟩
  case validate =>
    intro r
    rw [raiseForResult_frame]
    exact kept _ rfl rfl rfl
  case seq =>
    rw [seqOp_frame]
    exact kept _ rfl rfl rfl
  all_goals
    intros
    exact kept _ rfl rfl rfl

/-- Settles O11: only a write or CAL_LOAD changes the configuration, and in Config alone. -/
theorem configurationFrozenAfterLock : Obligations.ConfigurationFrozenAfterLock := fun _ _ _ ht hreset =>
  exec_configKept hreset ht

/-! ## The session phase -/

/-- How the operation `i`, which is not RESET, may move the session phase (10_state.md R31). -/
def SessionMove (i : Instr) (s t : State) : Prop :=
  t.session = s.session ∨
  (s.session = .config ∧ t.session = .running ∧ CanLock i) ∨
  (s.session ≠ .halted ∧ t.session = .halted ∧ t.err.calFail = true ∧ CanHalt i)

theorem ReceiveFrame.session_eq {s t : State} (h : ReceiveFrame s t) : t.session = s.session := by
  unfold ReceiveFrame at h
  rw [h]

theorem exec_sessionMove {i : Instr} (hreset : i ≠ .reset) {s t : State} (ht : exec i s = .next t) :
    SessionMove i s t := by
  refine exec_induction (SessionMove i) i hreset s ?refl ?front ?interval ?pulse ?read ?clear ?store ?config ?halt
    ?scale ?lock ?rxStart ?rxStop ?txStop ?encode ?validate ?frame ?classify ?seq t ht
  case front => exact fun s' hs' => .inl hs'.receiveFrame.session_eq
  case interval => exact fun k d s' hs' => .inl (evInterval_receiveFrame k d hs').session_eq
  case pulse => exact fun d s' hs' => .inl (evPulse_receiveFrame d hs').session_eq
  case store =>
    intro r data _ _
    exact .inl (by rw [r.store_frame])
  case lock => exact fun hi hs _ _ => .inr (.inl ⟨hs, rfl, hi⟩)
  case halt => exact fun hi hs => .inr (.inr ⟨hs, rfl, rfl, hi⟩)
  case validate =>
    intro r
    exact .inl (by rw [raiseForResult_frame])
  case seq => exact .inl (by rw [seqOp_frame])
  all_goals
    intros
    exact .inl rfl

/-- Settles O12: RESET, or one of the two other ways. -/
theorem sessionPhaseTransitions : Obligations.SessionPhaseTransitions := by
  intro i s t ht
  by_cases hreset : i = .reset
  · subst hreset
    rw [exec_reset] at ht
    injection ht with ht
    rw [← ht]
    exact .inr (.inr (.inr ⟨rfl, rfl⟩))
  · rcases exec_sessionMove hreset ht with h | h | ⟨hs, hsession, hcal, hi⟩
    · exact .inl h
    · exact .inr (.inl h)
    · refine .inr (.inr (.inl ⟨hs, hsession, hcal, ?_⟩))
      rcases hi with hi | hi | hi
      · exact .inl hi
      · exact .inr (.inl hi)
      · exact .inr (.inr hi)

/-! ## The history -/

/-- The streams are append-only, the counters never fall, `CALFAIL` stays (10_state.md R19, R24, R29, R30). -/
structure HistoryGrows (s t : State) : Prop where
  out : s.out <+: t.out
  txs : s.txs <+: t.txs
  viol : s.cnt.viol.toNat ≤ t.cnt.viol.toNat
  lenMiss : s.cnt.lenMiss.toNat ≤ t.cnt.lenMiss.toNat
  pkt : s.cnt.pkt.toNat ≤ t.cnt.pkt.toNat
  chkFail : s.cnt.chkFail.toNat ≤ t.cnt.chkFail.toNat
  calFail : s.err.calFail = true → t.err.calFail = true

theorem HistoryGrows.refl (s : State) : HistoryGrows s s :=
  ⟨List.prefix_rfl, List.prefix_rfl, Nat.le_refl _, Nat.le_refl _, Nat.le_refl _, Nat.le_refl _, id⟩

theorem le_satInc {n : Nat} (x : BitVec n) : x.toNat ≤ (satInc x).toNat := by
  have hx := x.isLt
  rw [satInc_toNat]
  omega

theorem raise_historyGrows (e : ErrorKind) (s : State) : HistoryGrows s (raise e s) := by
  cases e
  case protocolViolation => exact { HistoryGrows.refl s with viol := le_satInc _ }
  case lengthMismatch => exact { HistoryGrows.refl s with lenMiss := le_satInc _ }
  case checksumFailure => exact { HistoryGrows.refl s with chkFail := le_satInc _ }
  case calibrationFailure => exact { HistoryGrows.refl s with calFail := fun _ => rfl }
  case configurationError => exact { HistoryGrows.refl s with }

theorem raiseForResult_historyGrows (r : PvResult) (s : State) : HistoryGrows s (raiseForResult r s) := by
  rcases raiseForResult_cases r s with ⟨_, e⟩ | ⟨_, e⟩ <;> rw [e]
  · exact raise_historyGrows _ s
  · exact .refl s

theorem accept_historyGrows (s : State) : HistoryGrows s (accept s) :=
  let h := raiseForResult_historyGrows (acceptRecord s).pv s
  { h with out := h.out.trans (List.prefix_append _ _), pkt := Nat.le_trans h.pkt (le_satInc _) }

theorem evInterval_historyGrows (k : Option Kind) (d : U32) (s : State) : HistoryGrows s (evInterval k d s) := by
  rcases evInterval_cases k d s with e | ⟨_, _, _, _, e⟩ | ⟨_, _, _, _, e⟩ | ⟨_, _, _, e⟩ | ⟨_, _, _, e⟩ |
    ⟨_, _, _, _, e⟩ | ⟨_, _, _, _, e⟩ <;> rw [e]
  case inl => exact raise_historyGrows _ s
  case inr.inr.inr.inr.inr.inl => exact { accept_historyGrows s with }
  case inr.inr.inr.inr.inr.inr => exact { raise_historyGrows .lengthMismatch s with }
  all_goals exact { HistoryGrows.refl s with }

theorem evPulse_historyGrows (d : U32) (s : State) : HistoryGrows s (evPulse d s) := by
  rcases evPulse_cases d s with ⟨_, e⟩ | ⟨_, e⟩ <;> rw [e]
  · exact raise_historyGrows _ s
  · exact { HistoryGrows.refl s with }

theorem seqOp_historyGrows (s : State) : HistoryGrows s (seqOp s) := by
  cases h : s.enc.encState with
  | idle => rw [seqOp_of_idle h]; exact .refl s
  | busy => rw [seqOp_of_busy h]; exact { HistoryGrows.refl s with txs := List.prefix_append _ _ }

/-- Restated from the start of the receive operation: the front end touches no history. -/
theorem HistoryGrows.of_front {s s' t : State} (h : HistoryGrows s' t) (hs' : FrontEndStep s s') :
    HistoryGrows s t := by
  rcases hs' with rfl | ⟨_, _, _, rfl⟩ | rfl <;> exact { h with }

theorem exec_historyGrows {i : Instr} (hreset : i ≠ .reset) {s t : State} (ht : exec i s = .next t) :
    HistoryGrows s t := by
  have hrefl := HistoryGrows.refl s
  refine exec_induction HistoryGrows i hreset s hrefl ?front ?interval ?pulse ?read ?clear ?store ?config ?halt ?scale
    ?lock ?rxStart ?rxStop ?txStop ?encode ?validate ?frame ?classify ?seq t ht
  case front => exact fun s' hs' => (HistoryGrows.refl s').of_front hs'
  case interval => exact fun k d s' hs' => (evInterval_historyGrows k d s').of_front hs'
  case pulse => exact fun d s' hs' => (evPulse_historyGrows d s').of_front hs'
  case store =>
    intro r data _ _
    rw [r.store_frame]
    exact { hrefl with }
  case config => exact raise_historyGrows _ s
  case halt => exact fun _ _ => raise_historyGrows _ s
  case validate => exact fun r => { raiseForResult_historyGrows r s with }
  case seq => exact seqOp_historyGrows s
  all_goals
    intros
    exact { hrefl with }

/-- Settles O13. -/
theorem historyOnlyGrows : Obligations.HistoryOnlyGrows := by
  intro i s t ht hreset
  obtain ⟨hout, htxs, hviol, hlen, hpkt, hchk, hcal⟩ := exec_historyGrows hreset ht
  exact ⟨hout, htxs, hviol, hlen, hpkt, hchk, hcal⟩

/-! ## Acceptance -/

theorem average_toNat (sum : BitVec 40) (cnt : BitVec 8) :
    (average sum cnt).toNat = floorAverage sum.toNat cnt.toNat % 2 ^ 32 := by
  unfold average floorAverage
  by_cases h : cnt = 0
  · simp [h]
  · have hne : cnt.toNat ≠ 0 := fun he => h (BitVec.eq_of_toNat_eq he)
    rw [if_neg h, if_neg hne, BitVec.toNat_ofNat]

/-- An average of 32-bit durations has 32 bits (43_decoder.md R148). -/
theorem average_exact {sum : BitVec 40} {cnt : BitVec 8} (h : sum.toNat ≤ cnt.toNat * (2 ^ 32 - 1)) :
    (average sum cnt).toNat = floorAverage sum.toNat cnt.toNat := by
  rw [average_toNat, Nat.mod_eq_of_lt]
  unfold floorAverage
  split
  · decide
  · have hle : sum.toNat / cnt.toNat ≤ 2 ^ 32 - 1 := Nat.div_le_of_le_mul h
    omega

/-- Settles O10: with at most 80 bits no count of the invariant has reached 255. -/
theorem acceptanceIsExact : Obligations.AcceptanceIsExact := by
  intro s h hstate hphase hbits
  have hmax := h.cfg.expectedMax
  have hpulses := h.dec.pulses
  simp only [hstate, hphase] at hpulses
  have hsplit := h.dec.bits (by omega)
  have hcode := h.dec.code (by omega)
  have hpulse := h.dec.sumPulse (by omega)
  have hshort := h.dec.sumShort (by omega)
  have hlong := h.dec.sumLong (by omega)
  rw [hbits] at hcode
  exact ⟨by omega, by omega, hcode, hpulse, hshort, hlong, by omega, average_exact hpulse, average_exact hshort,
    average_exact hlong⟩

end Sys2Proof.Machine

/-! # Proofs: the two channels

The receive channel neither reads nor writes what the transmit channel holds, and the sequencer nothing else
(20_memory.md R51, 60_exceptions.md R238). -/

namespace Sys2Proof.Machine

/-- What the transmit channel holds: the encoder, the LUT, the transmit buffer, the output level, `TXS` and TX_DONE. -/
structure TxPart where
  enc : Encoder
  lut : PerKind U32
  pkt : Packet
  txBits : BitVec 7
  txRepeats : BitVec 7
  txLevel : Bool
  txs : List Segment
  txDone : Bool

/-- The transmit channel of a state. -/
def State.tx (s : State) : TxPart :=
  { enc := s.enc, lut := s.lut, pkt := s.pkt, txBits := s.txBits, txRepeats := s.txRepeats, txLevel := s.txLevel,
    txs := s.txs, txDone := s.io.txDone }

/-- A state with another transmit channel. -/
def State.withTx (s : State) (x : TxPart) : State :=
  { s with
    enc := x.enc, lut := x.lut, pkt := x.pkt, txBits := x.txBits, txRepeats := x.txRepeats, txLevel := x.txLevel,
    txs := x.txs, io := { s.io with txDone := x.txDone } }

@[simp] theorem State.withTx_tx (s : State) : s.withTx s.tx = s := rfl

/-! ## Receiving -/

/-- The alternation of an interval that comes in turn (43_decoder.md R139). -/
def pulseNext (s : State) : State := { s with dec := { s.dec with phase := .expectPulse } }

/-- The front end after an edge (42_classifier.md R120). -/
def edgeTaken (ts : U32) (s : State) : State :=
  { s with rx := { s.rx with wdArmed := true, prevTs := ts, prevValid := true }, idle := 0 }

/-- The watchdog after it fired (43_decoder.md R145). -/
def disarmed (s : State) : State := { s with rx := { s.rx with wdArmed := false } }

section
variable (s : State) (x : TxPart)

theorem State.withTx_session : (s.withTx x).session = s.session := rfl
theorem State.withTx_cfg : (s.withTx x).cfg = s.cfg := rfl
theorem State.withTx_dec : (s.withTx x).dec = s.dec := rfl
theorem State.withTx_rx : (s.withTx x).rx = s.rx := rfl

theorem accept_withTx : accept (s.withTx x) = (accept s).withTx x := by
  rw [accept_eq, accept_eq]
  rfl

theorem onSyncGap_withTx : onSyncGap (s.withTx x) = (onSyncGap s).withTx x := by
  unfold onSyncGap
  rw [State.withTx_dec]
  split <;> rfl

theorem onSync_withTx : onSync (s.withTx x) = (onSync s).withTx x := by
  unfold onSync
  rw [State.withTx_dec]
  split <;> rfl

theorem onGap_withTx : onGap (s.withTx x) = (onGap s).withTx x := by
  unfold onGap
  rw [State.withTx_dec, State.withTx_cfg, accept_withTx]
  split <;> rfl

theorem evPulse_withTx (d : U32) : evPulse d (s.withTx x) = (evPulse d s).withTx x := by
  unfold evPulse
  rw [State.withTx_dec]
  cases s.dec.phase <;> rfl

theorem evInterval_withTx (k : Option Kind) (d : U32) :
    evInterval k d (s.withTx x) = (evInterval k d s).withTx x := by
  unfold evInterval
  rw [State.withTx_dec]
  cases s.dec.phase with
  | expectPulse => rfl
  | expectInterval =>
    cases s.dec.state with
    | syncWait =>
      match k with
      | some .syncGap => exact onSyncGap_withTx (pulseNext s) x
      | some .sync => exact onSync_withTx (pulseNext s) x
      | none | some .pulse | some .short | some .long | some .gap => rfl
    | dataCollect =>
      match k with
      | some .gap => exact onGap_withTx (pulseNext s) x
      | none | some .syncGap | some .pulse | some .short | some .long | some .sync => rfl

theorem edgeOp_withTx (l : Bool) (ts : U32) : edgeOp l ts (s.withTx x) = (edgeOp l ts s).withTx x := by
  unfold edgeOp
  rw [State.withTx_session, State.withTx_rx, State.withTx_cfg]
  split
  · cases s.rx.prevValid with
    | false => rfl
    | true =>
      cases l with
      | false => exact evPulse_withTx (edgeTaken ts s) x _
      | true => exact evInterval_withTx (edgeTaken ts s) x _ _
  · rfl

theorem evWd_withTx : evWd (s.withTx x) = (evWd s).withTx x :=
  evInterval_withTx (disarmed s) x _ _

end

/-- An edge is a step of the front end and at most one event. -/
theorem edgeOp_receiveFrame (l : Bool) (ts : U32) (s : State) : ReceiveFrame s (edgeOp l ts s) := by
  rcases edgeOp_cases l ts s with ⟨_, e⟩ | ⟨hrun, hen, s1, hs1, h⟩
  · rw [e]; rfl
  · have hfront : FrontEndStep s s1 := .inr (.inl ⟨hrun, hen, ts, hs1⟩)
    rcases h with ⟨_, e⟩ | ⟨_, _, e⟩ | ⟨_, _, e⟩ <;> rw [e]
    · exact hfront.receiveFrame
    · exact evInterval_receiveFrame _ _ hfront
    · exact evPulse_receiveFrame _ hfront

/-- The receive channel against the transmit channel: it leaves it, and goes the same way beside any other
(20_memory.md R51). -/
theorem receive_withTx {i : Instr} (hi : isReceive i = true) (s : State) :
    ∃ t, exec i s = .next t ∧ ReceiveFrame s t ∧ ∀ x, exec i (s.withTx x) = .next (t.withTx x) := by
  have hinterval : ∀ k d, ∃ t, Host.Outcome.next (evInterval k d s) = (.next t : Result) ∧ ReceiveFrame s t ∧
      ∀ x, Host.Outcome.next (evInterval k d (s.withTx x)) = (.next (t.withTx x) : Result) :=
    fun k d => ⟨_, rfl, evInterval_receiveFrame k d (.inl rfl), fun x => congrArg _ (evInterval_withTx s x k d)⟩
  cases i
  case edge l ts =>
    exact ⟨_, rfl, edgeOp_receiveFrame l ts s, fun x => congrArg Host.Outcome.next (edgeOp_withTx s x l ts)⟩
  case evPulse d =>
    exact ⟨_, rfl, evPulse_receiveFrame d (.inl rfl), fun x => congrArg Host.Outcome.next (evPulse_withTx s x d)⟩
  case evWd =>
    exact ⟨_, rfl, evInterval_receiveFrame _ _ (.inr (.inr rfl)),
      fun x => congrArg Host.Outcome.next (evWd_withTx s x)⟩
  case evIvSyncGap d | evIvPulse d | evIvShort d | evIvLong d | evIvSync d | evIvGap d | evIvUnknown d
    | evReserved6 d | evReservedA d | evReservedB d | evReservedC d | evReservedD d | evReservedE d | evReservedF d =>
    exact hinterval _ d
  all_goals cases hi

/-- Settles O15: the replaced transmit state rides along. -/
theorem receiveIgnoresTransmitState : Obligations.ReceiveIgnoresTransmitState := by
  intro i s enc lut pkt bits reps level txs hi
  obtain ⟨t, ht, hframe, hx⟩ := receive_withTx hi s
  have hother := hx { s.tx with
    enc := enc, lut := lut, pkt := pkt, txBits := bits, txRepeats := reps, txLevel := level, txs := txs }
  unfold ReceiveFrame at hframe
  refine ⟨t, ht, ?_⟩
  rw [hframe] at hother ⊢
  exact ⟨rfl, rfl, rfl, rfl, rfl, rfl, rfl, hother⟩

/-! ## Sending -/

/-- A sequencer step as a function of the transmit channel alone (41_encoder.md R107). -/
def TxPart.seqStep (x : TxPart) : TxPart :=
  match x.enc.encState with
  | .idle => x
  | .busy =>
    { x with txs := x.txs ++ [x.enc.pair x.lut], enc := x.enc.next, txDone := x.enc.finishing || x.txDone }

theorem seqOp_eq_withTx (s : State) : seqOp s = s.withTx s.tx.seqStep := by
  unfold TxPart.seqStep
  cases h : s.tx.enc.encState with
  | idle => exact seqOp_of_idle h
  | busy => exact seqOp_of_busy h

theorem ReceiveFrame.tx_eq {s t : State} (h : ReceiveFrame s t) : t.tx = s.tx := by
  unfold ReceiveFrame at h
  rw [h]
  rfl

/-- Settles O14: the sequencer's step reads and writes the transmit channel, which the receive operation carries
along. -/
theorem channelsCommute : Obligations.ChannelsCommute := by
  intro i s hi
  obtain ⟨t, ht, hframe, hx⟩ := receive_withTx hi s
  have hseq : seqOp t = t.withTx s.tx.seqStep := by rw [seqOp_eq_withTx, hframe.tx_eq]
  simp only [execAll, ht, exec_seqStep, hseq, seqOp_eq_withTx s, hx]

end Sys2Proof.Machine

/-! # Proofs: the classifier and the front end

The first band that contains a duration (42_classifier.md R122 to R125); refusals (60_exceptions.md R225); what an edge
does (42_classifier.md R120, R126). -/

namespace Sys2Proof.Machine

/-! ## The first match -/

theorem kinds_sorted : kinds.Pairwise fun j k => (kindCode (some j)).toNat < (kindCode (some k)).toNat := by decide

theorem kindCode_injective {j k : Kind} (h : (kindCode (some j)).toNat = (kindCode (some k)).toNat) : j = k := by
  cases j <;> cases k <;> first | rfl | cases h

/-- Searching the kinds in their order: the match, and none before it (42_classifier.md R123). -/
theorem find?_kinds_eq_some (p : Kind → Bool) (k : Kind) :
    kinds.find? p = some k ↔
      p k = true ∧ ∀ j, (kindCode (some j)).toNat < (kindCode (some k)).toNat → ¬p j = true := by
  have first : ∀ k, kinds.find? p = some k →
      p k = true ∧ ∀ j, (kindCode (some j)).toNat < (kindCode (some k)).toNat → ¬p j = true := by
    intro k hk
    obtain ⟨hpk, before, after, hsplit, hbefore⟩ := List.find?_eq_some_iff_append.1 hk
    refine ⟨hpk, fun j hj => ?_⟩
    have hsorted := kinds_sorted
    have hmem := kind_mem_kinds j
    rw [hsplit] at hsorted hmem
    have hafter := (List.pairwise_append.1 hsorted).2.1
    rcases List.mem_append.1 hmem with hmem | hmem
    · simpa using hbefore j hmem
    · rcases List.mem_cons.1 hmem with rfl | hmem
      · omega
      · have hlt := List.rel_of_pairwise_cons hafter hmem
        omega
  refine ⟨first k, fun ⟨hpk, hbefore⟩ => ?_⟩
  obtain ⟨j, hj⟩ := Option.isSome_iff_exists.1 (List.find?_isSome.2 ⟨k, kind_mem_kinds k, hpk⟩)
  obtain ⟨hpj, hbefore'⟩ := first j hj
  have hkj : ¬(kindCode (some k)).toNat < (kindCode (some j)).toNat := fun hlt => hbefore' k hlt hpk
  have hjk : ¬(kindCode (some j)).toNat < (kindCode (some k)).toNat := fun hlt => hbefore j hlt hpj
  rw [hj, kindCode_injective (j := j) (k := k) (by omega)]

theorem find?_kinds_eq_none (p : Kind → Bool) : kinds.find? p = none ↔ ∀ j, ¬p j = true :=
  List.find?_eq_none.trans ⟨fun h j => h j (kind_mem_kinds j), fun h j _ => h j⟩

theorem Cfg.inBand_iff (c : Cfg) (d : U32) (k : Kind) :
    c.inBand d k = true ↔ (c.lo k).toNat ≤ d.toNat ∧ d.toNat ≤ (c.hi k).toNat := by
  simp [Cfg.inBand]

theorem Cfg.classify_of_gt {c : Cfg} {d : U32} (h : c.wdUs.toNat < d.toNat) : c.classify d = some .gap := if_pos h

theorem Cfg.classify_of_le {c : Cfg} {d : U32} (h : d.toNat ≤ c.wdUs.toNat) :
    c.classify d = kinds.find? (c.inBand d) := if_neg (Nat.not_lt.2 h)

theorem Cfg.classify_eq_some_iff {c : Cfg} {d : U32} (h : d.toNat ≤ c.wdUs.toNat) (k : Kind) :
    c.classify d = some k ↔
      ((c.lo k).toNat ≤ d.toNat ∧ d.toNat ≤ (c.hi k).toNat) ∧
      ∀ j : Kind, (kindCode (some j)).toNat < (kindCode (some k)).toNat →
        ¬((c.lo j).toNat ≤ d.toNat ∧ d.toNat ≤ (c.hi j).toNat) := by
  rw [Cfg.classify_of_le h, find?_kinds_eq_some]
  simp only [Cfg.inBand_iff]

theorem Cfg.classify_eq_none_iff {c : Cfg} {d : U32} (h : d.toNat ≤ c.wdUs.toNat) :
    c.classify d = none ↔ ∀ j : Kind, ¬((c.lo j).toNat ≤ d.toNat ∧ d.toNat ≤ (c.hi j).toNat) := by
  rw [Cfg.classify_of_le h, find?_kinds_eq_none]
  simp only [Cfg.inBand_iff]

/-- Settles O17: the forced Gap, else the search of the kinds. -/
theorem classifyIsForceThenFirstMatch : Obligations.ClassifyIsForceThenFirstMatch := fun _ _ k =>
  ⟨Cfg.classify_of_gt, fun h => ⟨Cfg.classify_eq_some_iff h k, Cfg.classify_eq_none_iff h⟩⟩

/-- With disjoint bands no earlier band contains the duration too (42_classifier.md R125). -/
theorem Cfg.classify_eq_some_iff_of_disjoint {c : Cfg} {d : U32} (hdisj : c.BandsDisjoint)
    (h : d.toNat ≤ c.wdUs.toNat) (k : Kind) :
    c.classify d = some k ↔ (c.lo k).toNat ≤ d.toNat ∧ d.toNat ≤ (c.hi k).toNat := by
  rw [Cfg.classify_eq_some_iff h]
  refine and_iff_left_of_imp fun ⟨hlo, hhi⟩ j hj ⟨hlo', hhi'⟩ => ?_
  have hne : j ≠ k := by
    rintro rfl
    omega
  rcases hdisj j k hne with hsep | hsep <;> omega

/-- Settles O18. -/
theorem disjointBandsClassifyByBand : Obligations.DisjointBandsClassifyByBand := fun _ _ k hdisj h =>
  Cfg.classify_eq_some_iff_of_disjoint hdisj h k

/-! ## Refusals -/

theorem raise_config_refusedOnly (s : State) : RefusedOnly s (raise .configurationError s) := ⟨rfl, rfl⟩

/-- A command whose check fails is refused (60_exceptions.md R225). -/
theorem gated_refusedOnly {ok : Bool} (op : State → State) (s : State) (h : ok = false) :
    RefusedOnly s (gated ok op s) := by
  rw [h]
  exact raise_config_refusedOnly s

theorem gated_of_true {ok : Bool} (op : State → State) (s : State) (h : ok = true) : gated ok op s = op s := by
  rw [h, gated_true]

theorem not_halted_eq_true {s : State} (h : s.session ≠ .halted) : (s.session != .halted) = true := bne_iff_ne.2 h

theorem not_halted_eq_false {s : State} (h : s.session = .halted) : (s.session != .halted) = false := by
  rw [h]
  rfl

/-- Settles O19. -/
theorem classifyCommandWritesRes0 : Obligations.ClassifyCommandWritesRes0 := fun s =>
  ⟨fun h => congrArg Host.Outcome.next (gated_of_true _ s (not_halted_eq_true h)),
    fun h => ⟨classifyOp s, rfl, gated_refusedOnly _ s (not_halted_eq_false h)⟩⟩

/-! ## Edges -/

section
variable {s : State} (l : Bool) (ts : U32)

theorem edgeOp_of_not_receiving (h : ¬(s.session = .running ∧ s.rx.rxEn = true)) : edgeOp l ts s = s := if_neg h

theorem edgeOp_of_first (hrun : s.session = .running) (hen : s.rx.rxEn = true) (hprev : s.rx.prevValid = false) :
    edgeOp l ts s = edgeTaken ts s := by
  rw [edgeOp, if_pos ⟨hrun, hen⟩]
  exact if_neg (Bool.eq_false_iff.1 hprev)

theorem edgeOp_of_later (hrun : s.session = .running) (hen : s.rx.rxEn = true) (hprev : s.rx.prevValid = true) :
    edgeOp l ts s =
      if l then evInterval (s.cfg.classify (duration ts s.rx.prevTs)) (duration ts s.rx.prevTs) (edgeTaken ts s)
      else evPulse (duration ts s.rx.prevTs) (edgeTaken ts s) := by
  rw [edgeOp, if_pos ⟨hrun, hen⟩]
  exact if_pos hprev

end

/-- Settles O20. -/
theorem edgeDroppedOrRecorded : Obligations.EdgeDroppedOrRecorded := by
  refine fun s l ts => ⟨fun h => ?_, fun hrun hen hprev => ?_⟩
  · have hnot : ¬(s.session = .running ∧ s.rx.rxEn = true) := by
      rintro ⟨hrun, hen⟩
      rcases h with h | h
      · exact h hrun
      · rw [hen] at h
        cases h
    rw [exec_edge, edgeOp_of_not_receiving l ts hnot]
  · rw [exec_edge, edgeOp_of_first l ts hrun hen hprev]
    simp only [edgeTaken, hen]

theorem exec_intervalEvent (k : Option Kind) (d : U32) (s : State) :
    exec (intervalEvent k d) s = .next (evInterval k d s) := by
  rcases k with _ | k
  · rfl
  · cases k <;> rfl

/-- The decoder does not touch the front end. -/
theorem evInterval_rx (k : Option Kind) (d : U32) (s : State) :
    (evInterval k d s).rx = s.rx ∧ (evInterval k d s).idle = s.idle := by
  rw [evInterval_frame]
  exact ⟨rfl, rfl⟩

theorem evPulse_rx (d : U32) (s : State) : (evPulse d s).rx = s.rx ∧ (evPulse d s).idle = s.idle := by
  rw [evPulse_frame]
  exact ⟨rfl, rfl⟩

/-- Settles O21: the event is the one that the level asks for, and only the front end keeps the edge. -/
theorem edgeMeasuresAndDecodes : Obligations.EdgeMeasuresAndDecodes := by
  intro s l ts hrun hen hprev
  have hstart : { s with rx := { s.rx with prevTs := ts, wdArmed := true }, idle := 0 } = edgeTaken ts s := by
    rw [edgeTaken, ← hprev]
  refine ⟨duration ts s.rx.prevTs, edgeOp l ts s, duration_toNat _ _, rfl, ?_⟩
  rw [hstart, edgeOp_of_later l ts hrun hen hprev]
  cases l with
  | true =>
    obtain ⟨hrx, hidle⟩ := evInterval_rx (s.cfg.classify (duration ts s.rx.prevTs)) (duration ts s.rx.prevTs)
      (edgeTaken ts s)
    refine ⟨exec_intervalEvent _ _ _, ?_⟩
    rw [if_pos rfl, hrx, hidle]
    exact ⟨rfl, rfl, rfl, rfl⟩
  | false =>
    obtain ⟨hrx, hidle⟩ := evPulse_rx (duration ts s.rx.prevTs) (edgeTaken ts s)
    refine ⟨rfl, ?_⟩
    rw [if_neg Bool.false_ne_true, hrx, hidle]
    exact ⟨rfl, rfl, rfl, rfl⟩

end Sys2Proof.Machine

/-! # Proofs: the decoder's transition table

One equation per entry (43_decoder.md R138 to R147, R152), and the statements on single events. -/

namespace Sys2Proof.Machine

/-! ## Events -/

/-- An interval event is `evInterval` of its kind and some duration; of the kinds that a preamble takes there is one
operation each (30_encoding.md R63, R76). -/
theorem exec_of_intervalKind {i : Instr} {k : Option Kind} (h : intervalKind i = some k) :
    ∃ d, (∀ s, exec i s = .next (evInterval k d s)) ∧ (k = some .syncGap → i = .evIvSyncGap d) ∧
      (k = some .sync → i = .evIvSync d) := by
  cases i
  case evIvSyncGap d | evIvPulse d | evIvShort d | evIvLong d | evIvSync d | evIvGap d | evIvUnknown d
    | evReserved6 d | evReservedA d | evReservedB d | evReservedC d | evReservedD d | evReservedE d | evReservedF d =>
    obtain rfl := Option.some.inj h
    exact ⟨d, fun _ => rfl, by simp, by simp⟩
  all_goals cases h

/-- What the decoder is handed (43_decoder.md R135). -/
theorem isEvent_cases {i : Instr} (h : isEvent i = true) :
    (∃ d, i = .evPulse d) ∨ i = .evWd ∨ ∃ k, intervalKind i = some k := by
  cases i
  case evPulse d => exact .inl ⟨d, rfl⟩
  case evWd => exact .inr (.inl rfl)
  case edge | cfgWrite | cfgRead | lock | rxStart | rxCancel | encode | txCancel | calLoad | calFail | validate
    | frameV40 | frameV48 | frameV80 | classify | cmdReserved | seqStep | reset => cases h
  all_goals exact .inr (.inr ⟨_, rfl⟩)

/-! ## The entries of the table -/

section
variable {s : State}

theorem evPulse_of_expectPulse (d : U32) (h : s.dec.phase = .expectPulse) :
    evPulse d s =
      { s with
        dec :=
          { s.dec with
            sumPulse := addSum s.dec.sumPulse d, cntPulse := satInc s.dec.cntPulse, phase := .expectInterval } } := by
  simp only [evPulse, h]

theorem evPulse_of_expectInterval (d : U32) (h : s.dec.phase = .expectInterval) :
    evPulse d s = raise .protocolViolation s := by
  simp only [evPulse, h]

theorem evInterval_of_expectPulse (k : Option Kind) (d : U32) (h : s.dec.phase = .expectPulse) :
    evInterval k d s = raise .protocolViolation s := by
  simp only [evInterval, h]

/-- The violation resets the phase that the interval leaves behind. -/
theorem evInterval_of_not_inTable {k : Option Kind} (d : U32) (hphase : s.dec.phase = .expectInterval)
    (h : inTable s.dec.state k = false) : evInterval k d s = raise .protocolViolation s := by
  unfold evInterval
  rw [hphase]
  cases hstate : s.dec.state <;> rw [hstate] at h
  case syncWait =>
    match k with
    | some .syncGap | some .sync => cases h
    | none | some .pulse | some .short | some .long | some .gap => rfl
  case dataCollect =>
    match k with
    | some .short | some .long | some .gap => cases h
    | none | some .syncGap | some .pulse | some .sync => rfl

section SyncWait
variable (d : U32) (hphase : s.dec.phase = .expectInterval) (hstate : s.dec.state = .syncWait)
include hphase hstate

theorem evInterval_syncGap (hsync : s.dec.syncCount ≠ 2) :
    evInterval (some .syncGap) d s =
      { s with dec := { s.dec with phase := .expectPulse, syncCount := s.dec.syncCount + 1 } } := by
  simp only [evInterval, hphase, hstate, onSyncGap, if_neg hsync]

theorem evInterval_syncGap_third (hsync : s.dec.syncCount = 2) :
    evInterval (some .syncGap) d s = raise .protocolViolation s := by
  simp only [evInterval, hphase, hstate, onSyncGap, if_pos hsync]
  rfl

theorem evInterval_sync (hsync : s.dec.syncCount = 2) :
    evInterval (some .sync) d s =
      { s with
        dec :=
          { s.dec with phase := .expectPulse, state := .dataCollect, bitCount := 0, code := 0, syncCount := 0 } } := by
  simp only [evInterval, hphase, hstate, onSync, if_pos hsync]

theorem evInterval_sync_early (hsync : s.dec.syncCount ≠ 2) :
    evInterval (some .sync) d s = raise .protocolViolation s := by
  simp only [evInterval, hphase, hstate, onSync, if_neg hsync]
  rfl

end SyncWait

section DataCollect
variable (d : U32) (hphase : s.dec.phase = .expectInterval) (hstate : s.dec.state = .dataCollect)
include hphase hstate

theorem evInterval_short :
    evInterval (some .short) d s =
      { s with
        dec :=
          { s.dec with
            phase := .expectPulse, bitCount := satInc s.dec.bitCount, code := shiftIn s.dec.code false,
            sumShort := addSum s.dec.sumShort d, cntShort := satInc s.dec.cntShort } } := by
  simp only [evInterval, hphase, hstate, onShort]

theorem evInterval_long :
    evInterval (some .long) d s =
      { s with
        dec :=
          { s.dec with
            phase := .expectPulse, bitCount := satInc s.dec.bitCount, code := shiftIn s.dec.code true,
            sumLong := addSum s.dec.sumLong d, cntLong := satInc s.dec.cntLong } } := by
  simp only [evInterval, hphase, hstate, onLong]

theorem evInterval_gap_of_bitCount_eq (hlen : s.dec.bitCount.toNat = s.cfg.expectedBits.toNat) :
    evInterval (some .gap) d s = decReset (accept s) := by
  rcases evInterval_cases (some .gap) d s with e | ⟨_, _, hk, _⟩ | ⟨_, _, hk, _⟩ | ⟨_, _, hk, _⟩ | ⟨_, _, hk, _⟩ |
    ⟨_, _, _, _, e⟩ | ⟨_, _, _, hne, _⟩
  case inr.inr.inr.inr.inr.inl => exact e
  case inr.inr.inr.inr.inr.inr => exact absurd hlen hne
  case inl =>
    simp only [evInterval, hphase, hstate, onGap, if_pos hlen, accept_eq, acceptRecord]
    rfl
  all_goals cases hk

end DataCollect

end

/-! ## Single events -/

theorem raise_violated (s : State) : Violated s (raise .protocolViolation s) := ⟨satInc_toNat _, rfl, rfl⟩

/-- Settles O22. -/
theorem pulseJoinsTheMetric : Obligations.PulseJoinsTheMetric := by
  refine fun s d => ⟨fun hphase => ?_, fun hphase => ?_⟩
  · refine ⟨evPulse d s, rfl, ?_⟩
    rw [evPulse_of_expectPulse d hphase]
    exact ⟨addSum_toNat _ _, satInc_toNat _, rfl, rfl⟩
  · exact ⟨raise .protocolViolation s, by rw [exec_evPulse, evPulse_of_expectInterval d hphase], raise_violated s⟩

/-- Settles O23: the alternation is checked before the kind. -/
theorem intervalOutOfTurnIsAViolation : Obligations.IntervalOutOfTurnIsAViolation := by
  refine fun i s hphase => ⟨fun hi => ?_, fun hi => ?_⟩
  · obtain ⟨k, hk⟩ := Option.isSome_iff_exists.1 hi
    obtain ⟨d, hexec, _⟩ := exec_of_intervalKind hk
    exact ⟨_, by rw [hexec, evInterval_of_expectPulse k d hphase], raise_violated s⟩
  · subst hi
    exact ⟨_, congrArg Host.Outcome.next (evInterval_of_expectPulse (s := disarmed s) _ _ hphase),
      raise_violated (disarmed s)⟩

/-- Settles O24. -/
theorem syncGapCountsToTwo : Obligations.SyncGapCountsToTwo := by
  intro s d hstate hphase hle
  refine ⟨evInterval (some .syncGap) d s, rfl, fun hlt => ?_, fun heq => ?_⟩
  · have hne : s.dec.syncCount ≠ 2 := by
      intro he
      rw [he] at hlt
      exact absurd hlt (by decide)
    rw [evInterval_syncGap d hphase hstate hne]
    exact ⟨syncCount_succ_toNat hle hne, rfl⟩
  · rw [evInterval_syncGap_third d hphase hstate (BitVec.eq_of_toNat_eq heq)]
    exact raise_violated s

/-- Settles O25. -/
theorem syncCompletesThePreamble : Obligations.SyncCompletesThePreamble := by
  intro s d hstate hphase
  refine ⟨evInterval (some .sync) d s, rfl, fun heq => ?_, fun hne => ?_⟩
  · rw [evInterval_sync d hphase hstate (BitVec.eq_of_toNat_eq heq)]
  · have hne' : s.dec.syncCount ≠ 2 := fun he => hne (by rw [he]; rfl)
    rw [evInterval_sync_early d hphase hstate hne']
    exact raise_violated s

/-- Settles O26. -/
theorem shortAndLongShiftABit : Obligations.ShortAndLongShiftABit := by
  intro s d hstate hphase
  refine ⟨⟨evInterval (some .short) d s, rfl, ?_⟩, ⟨evInterval (some .long) d s, rfl, ?_⟩⟩
  · rw [evInterval_short d hphase hstate]
    exact ⟨shiftIn_toNat _ _, satInc_toNat _, addSum_toNat _ _, satInc_toNat _, rfl⟩
  · rw [evInterval_long d hphase hstate]
    exact ⟨shiftIn_toNat _ _, satInc_toNat _, addSum_toNat _ _, satInc_toNat _, rfl⟩

/-- The acceptance of the packet that the decoder holds (43_decoder.md R148, R149). -/
theorem decReset_accept_accepted (s : State) : Accepted s (decReset (accept s)) := by
  rw [accept_eq]
  refine ⟨acceptRecord s, rfl, rfl, average_toNat _ _, average_toNat _ _, average_toNat _ _, rfl, rfl, rfl, rfl, rfl,
    satInc_toNat _, ?_, rfl, rfl⟩
  refine (apply_ite BitVec.toNat _ _ _).trans ?_
  rw [satInc_toNat]

/-- Settles O27: for either Gap the state reached is the acceptance and the decoder's reset. -/
theorem gapAcceptsTheExpectedLength : Obligations.GapAcceptsTheExpectedLength := by
  intro s d hstate hphase hlen
  refine ⟨⟨decReset (accept s), ?real, decReset_accept_accepted s⟩,
    ⟨decReset (accept (disarmed s)), ?synthetic, decReset_accept_accepted (disarmed s)⟩⟩
  case real => rw [exec_evIvGap, evInterval_gap_of_bitCount_eq d hphase hstate hlen]
  case synthetic =>
    exact congrArg Host.Outcome.next (evInterval_gap_of_bitCount_eq (s := disarmed s) 0 hphase hstate hlen)

/-- Settles O29: outside the table every entry is the violation. -/
theorem everyOtherIntervalIsAViolation : Obligations.EveryOtherIntervalIsAViolation := by
  refine fun i s hphase => ⟨fun k hk htable => ?_, fun hi hstate => ?_⟩
  · obtain ⟨d, hexec, _⟩ := exec_of_intervalKind hk
    exact ⟨_, by rw [hexec, evInterval_of_not_inTable d hphase htable], raise_violated s⟩
  · subst hi
    have htable : inTable (disarmed s).dec.state (some .gap) = false := by
      simp only [disarmed, hstate, inTable]
    exact ⟨_, congrArg Host.Outcome.next (evInterval_of_not_inTable (s := disarmed s) 0 hphase htable),
      raise_violated (disarmed s)⟩

/-- Settles O32: the first violation leaves the decoder expecting a pulse, so the interval is the second, and a pulse
comes in turn after it. -/
theorem pulseViolationCostsOneMore : Obligations.PulseViolationCostsOneMore := by
  intro s i d1 d2 hphase hi
  obtain ⟨k, hk⟩ := Option.isSome_iff_exists.1 hi
  obtain ⟨d, hexec, _⟩ := exec_of_intervalKind hk
  have hsecond : evInterval k d (raise .protocolViolation s) = raise .protocolViolation (raise .protocolViolation s) :=
    evInterval_of_expectPulse k d rfl
  refine ⟨raise .protocolViolation (raise .protocolViolation s), _, ?_, ?_, rfl, rfl, ?_⟩
  · simp only [execAll, exec_evPulse, evPulse_of_expectInterval d1 hphase, hexec, hsecond]
  · simp only [raise_violation_cnt, satInc_toNat]
    omega
  · rw [evPulse_of_expectPulse d2 (by rfl)]
    exact ⟨rfl, rfl⟩

end Sys2Proof.Machine

/-! # Proofs: runs of events

The preamble (43_decoder.md R141, R152, R157) and the rows of data bits (20_memory.md R42). -/

namespace Sys2Proof.Machine

/-! ## Runs -/

theorem execAll_cons {i : Instr} {is : List Instr} {s t : State} (h : exec i s = .next t) :
    execAll (i :: is) s = execAll is t := by
  simp only [execAll, h]

theorem execAll_append {is js : List Instr} {s t : State} (h : execAll is s = .next t) :
    execAll (is ++ js) s = execAll js t := by
  induction is generalizing s with
  | nil =>
    injection h with h
    rw [List.nil_append, h]
  | cons i is ih =>
    obtain ⟨u, hu⟩ := exec_total i s
    rw [execAll_cons hu] at h
    rw [List.cons_append, execAll_cons hu, ih h]

theorem execAll_total (is : List Instr) (s : State) : ∃ t, execAll is s = .next t := by
  induction is generalizing s with
  | nil => exact ⟨s, rfl⟩
  | cons i is ih =>
    obtain ⟨u, hu⟩ := exec_total i s
    rw [execAll_cons hu]
    exact ih u

theorem execAll_singleton (i : Instr) (s : State) : execAll [i] s = exec i s := by
  obtain ⟨t, ht⟩ := exec_total i s
  rw [execAll_cons ht, ht, execAll]

/-! ## The preamble -/

/-- The events of a preamble as far as the decoder has counted it: what it expects next, how many SyncGaps it has
counted, and the events that led there from the reset state. -/
inductive PreambleSoFar : Phase → Nat → List Instr → Prop where
  | start : PreambleSoFar .expectPulse 0 []
  | pulse {n : Nat} {is : List Instr} (h : PreambleSoFar .expectPulse n is) (d : U32) :
      PreambleSoFar .expectInterval n (is ++ [.evPulse d])
  | syncGap {n : Nat} {is : List Instr} (h : PreambleSoFar .expectInterval n is) (d : U32) :
      PreambleSoFar .expectPulse (n + 1) (is ++ [.evIvSyncGap d])

/-- After two SyncGaps and a pulse only the Sync is missing. -/
theorem PreambleSoFar.append_sync {is : List Instr} (h : PreambleSoFar .expectInterval 2 is) (d : U32) :
    ∃ p1 g1 p2 g2 p3, is ++ [.evIvSync d] = preambleEvents p1 g1 p2 g2 p3 d := by
  cases h with | pulse h p3 => cases h with | syncGap h g2 => cases h with | pulse h p2 => cases h with
  | syncGap h g1 => cases h with | pulse h p1 => cases h with
  | start => exact ⟨p1, g1, p2, g2, p3, rfl⟩

/-- The run `is` from `s` holds a complete preamble that starts from a reset decoder. -/
def HoldsPreamble (s : State) (is : List Instr) : Prop :=
  ∃ (pre post : List Instr) (q1 h1 q2 h2 q3 h3 : U32) (u : State),
    is = pre ++ preambleEvents q1 h1 q2 h2 q3 h3 ++ post ∧ execAll pre s = .next u ∧ u.dec = .resetState

/-- The run `is` from `s` ends in `t` in the midst of a preamble that started from a reset decoder. -/
def InPreamble (s : State) (is : List Instr) (t : State) : Prop :=
  t.dec.state = .syncWait ∧ t.dec.syncCount.toNat ≤ 2 ∧
    ∃ (pre part : List Instr) (u : State), is = pre ++ part ∧ execAll pre s = .next u ∧ u.dec = .resetState ∧
      PreambleSoFar t.dec.phase t.dec.syncCount.toNat part

theorem HoldsPreamble.append {s : State} {is : List Instr} (h : HoldsPreamble s is) (i : Instr) :
    HoldsPreamble s (is ++ [i]) := by
  obtain ⟨pre, post, q1, h1, q2, h2, q3, h3, u, hsplit, hpre⟩ := h
  exact ⟨pre, post ++ [i], q1, h1, q2, h2, q3, h3, u, by rw [hsplit, List.append_assoc], hpre⟩

/-- A reset decoder is at the start of a preamble. -/
theorem InPreamble.of_reset {s t : State} {is : List Instr} (hrun : execAll is s = .next t)
    (hdec : t.dec = .resetState) : InPreamble s is t := by
  refine ⟨by rw [hdec]; rfl, by rw [hdec]; exact Nat.zero_le 2, is, [], t, by simp, hrun, hdec, ?_⟩
  rw [hdec]
  exact .start

/-- One more event: the preamble goes on, is complete, or the decoder is reset (43_decoder.md R152). -/
theorem InPreamble.step {s t t' : State} {is : List Instr} {i : Instr} (h : InPreamble s is t)
    (hi : isEvent i = true) (hexec : exec i t = .next t') (hrun : execAll (is ++ [i]) s = .next t') :
    InPreamble s (is ++ [i]) t' ∨ HoldsPreamble s (is ++ [i]) := by
  obtain ⟨hstate, hle, pre, part, u, hsplit, hpre, hu, hpart⟩ := h
  have hsplit' : is ++ [i] = pre ++ (part ++ [i]) := by rw [hsplit, List.append_assoc]
  rcases isEvent_cases hi with ⟨d, rfl⟩ | rfl | ⟨k, hk⟩
  · rw [exec_evPulse] at hexec
    injection hexec with hexec
    rcases evPulse_cases d t with ⟨_, e⟩ | ⟨hphase, e⟩ <;> rw [e] at hexec
    · exact .inl (.of_reset hrun (by rw [← hexec]; rfl))
    · subst hexec
      rw [hphase] at hpart
      exact .inl ⟨hstate, hle, pre, _, u, hsplit', hpre, hu, hpart.pulse d⟩
  · rw [exec_evWd] at hexec
    injection hexec with hexec
    exact .inl (.of_reset hrun (by rw [← hexec]; exact evInterval_gap_dec _ _))
  · obtain ⟨d, hall, hsg, hsy⟩ := exec_of_intervalKind hk
    rw [hall] at hexec
    injection hexec with hexec
    rcases evInterval_cases k d t with e | ⟨hphase, _, hkind, hne, e⟩ | ⟨hphase, _, hkind, heq, e⟩ | ⟨_, hs, _⟩ |
      ⟨_, hs, _⟩ | ⟨_, hs, _⟩ | ⟨_, hs, _⟩
    · rw [e] at hexec
      exact .inl (.of_reset hrun (by rw [← hexec]; rfl))
    · obtain rfl := hsg hkind
      rw [e] at hexec
      subst hexec
      rw [hphase] at hpart
      have hnext := syncCount_succ_toNat hle hne
      have hne' : t.dec.syncCount.toNat ≠ 2 := fun he => hne (BitVec.eq_of_toNat_eq he)
      refine .inl ⟨hstate, ?_, pre, _, u, hsplit', hpre, hu, ?_⟩
      · rw [hnext]
        omega
      · rw [hnext]
        exact hpart.syncGap d
    · obtain rfl := hsy hkind
      rw [hphase, heq] at hpart
      obtain ⟨p1, g1, p2, g2, p3, hfull⟩ := PreambleSoFar.append_sync hpart d
      exact .inr ⟨pre, [], p1, g1, p2, g2, p3, d, u, by rw [hsplit', hfull, List.append_nil], hpre, hu⟩
    all_goals
      rw [hstate] at hs
      cases hs

/-- Whatever events came, the decoder is in the midst of a preamble or one lies behind it. -/
theorem inPreamble_or_holdsPreamble {s : State} (hs : s.dec = .resetState) (is : List Instr)
    (hevents : ∀ i ∈ is, isEvent i = true) (t : State) (hrun : execAll is s = .next t) :
    InPreamble s is t ∨ HoldsPreamble s is := by
  induction is using List.reverseRecOn generalizing t with
  | nil =>
    injection hrun with hrun
    exact .inl (.of_reset (by rw [← hrun]; rfl) (by rw [← hrun, hs]))
  | append_singleton is i ih =>
    obtain ⟨u, hu⟩ := execAll_total is s
    have hexec : exec i u = .next t := by rw [← execAll_singleton, ← execAll_append hu, hrun]
    rcases ih (fun j hj => hevents j (List.mem_append_left _ hj)) u hu with h | h
    · exact h.step (hevents i (by simp)) hexec hrun
    · exact .inr (h.append i)

/-- The decoder after `n` SyncGaps and `c` pulses of an attempt, of total width `w` (43_decoder.md R138, R140). -/
def attempt (phase : Phase) (n : BitVec 2) (c : BitVec 8) (w : BitVec 40) (s : State) : State :=
  { s with dec := { Decoder.resetState with phase := phase, syncCount := n, cntPulse := c, sumPulse := w } }

theorem attempt_of_reset {s : State} (hs : s.dec = .resetState) : attempt .expectPulse 0 0 0 s = s := by
  have hdec : ({ Decoder.resetState with phase := .expectPulse, syncCount := 0, cntPulse := 0, sumPulse := 0 } : Decoder) =
      s.dec := hs.symm
  rw [attempt, hdec]

section
variable (n : BitVec 2) (c : BitVec 8) (w : BitVec 40) (s : State) (d : U32)

theorem exec_evPulse_attempt :
    exec (.evPulse d) (attempt .expectPulse n c w s) =
      .next (attempt .expectInterval n (satInc c) (addSum w d) s) := rfl

theorem exec_evIvSyncGap_attempt (hn : n ≠ 2) :
    exec (.evIvSyncGap d) (attempt .expectInterval n c w s) = .next (attempt .expectPulse (n + 1) c w s) :=
  congrArg Host.Outcome.next (evInterval_syncGap d rfl rfl hn)

theorem exec_evIvSyncGap_attempt_third :
    exec (.evIvSyncGap d) (attempt .expectInterval 2 c w s) = .next (raise .protocolViolation s) :=
  congrArg Host.Outcome.next (evInterval_syncGap_third d rfl rfl rfl)

theorem exec_evIvSync_attempt_early (hn : n ≠ 2) :
    exec (.evIvSync d) (attempt .expectInterval n c w s) = .next (raise .protocolViolation s) :=
  congrArg Host.Outcome.next (evInterval_sync_early d rfl rfl hn)

/-- The state in which a complete preamble leaves the block (43_decoder.md R141): only the pulse metric stays. -/
def collecting (c : BitVec 8) (w : BitVec 40) (s : State) : State :=
  { s with dec := { Decoder.resetState with state := .dataCollect, cntPulse := c, sumPulse := w } }

theorem exec_evIvSync_attempt :
    exec (.evIvSync d) (attempt .expectInterval 2 c w s) = .next (collecting c w s) :=
  congrArg Host.Outcome.next (evInterval_sync d rfl rfl rfl)

end

/-- A pulse and a SyncGap in turn (43_decoder.md R138, R140). -/
theorem execAll_pulse_syncGap (n : BitVec 2) (c : BitVec 8) (w : BitVec 40) (s : State) (d g : U32)
    (is : List Instr) (hn : n ≠ 2) :
    execAll (.evPulse d :: .evIvSyncGap g :: is) (attempt .expectPulse n c w s) =
      execAll is (attempt .expectPulse (n + 1) (satInc c) (addSum w d) s) := by
  rw [execAll_cons (exec_evPulse_attempt ..), execAll_cons (exec_evIvSyncGap_attempt _ _ _ _ _ hn)]

theorem execAll_preamble (p1 g1 p2 g2 p3 g3 : U32) (s : State) :
    execAll (preambleEvents p1 g1 p2 g2 p3 g3) (attempt .expectPulse 0 0 0 s) =
      .next (collecting 3 (addSum (addSum (addSum 0 p1) p2) p3) s) := by
  rw [preambleEvents, execAll_pulse_syncGap _ _ _ _ _ _ _ (by decide),
    execAll_pulse_syncGap _ _ _ _ _ _ _ (by decide), execAll_cons (exec_evPulse_attempt ..)]
  exact execAll_cons (exec_evIvSync_attempt 3 _ s g3)

/-- One SyncGap too few (43_decoder.md R141, R157). -/
theorem execAll_earlySync (p1 g1 p2 g2 : U32) (s : State) :
    execAll [.evPulse p1, .evIvSyncGap g1, .evPulse p2, .evIvSync g2] (attempt .expectPulse 0 0 0 s) =
      .next (raise .protocolViolation s) := by
  rw [execAll_pulse_syncGap _ _ _ _ _ _ _ (by decide), execAll_cons (exec_evPulse_attempt ..)]
  exact execAll_cons (exec_evIvSync_attempt_early _ _ _ _ _ (by decide))

/-- One SyncGap too many (43_decoder.md R140, R157). -/
theorem execAll_thirdSyncGap (p1 g1 p2 g2 p3 g3 : U32) (s : State) :
    execAll [.evPulse p1, .evIvSyncGap g1, .evPulse p2, .evIvSyncGap g2, .evPulse p3, .evIvSyncGap g3]
        (attempt .expectPulse 0 0 0 s) =
      .next (raise .protocolViolation s) := by
  rw [execAll_pulse_syncGap _ _ _ _ _ _ _ (by decide), execAll_pulse_syncGap _ _ _ _ _ _ _ (by decide),
    execAll_cons (exec_evPulse_attempt ..)]
  exact execAll_cons (exec_evIvSyncGap_attempt_third 3 _ s g3)

/-- Pulses and SyncGaps alone lead from SyncWait to SyncWait (43_decoder.md R152). -/
theorem exec_stays_syncWait {i : Instr} (hi : (∃ d, i = .evPulse d) ∨ ∃ d, i = .evIvSyncGap d) {s t : State}
    (hs : s.dec.state = .syncWait) (ht : exec i s = .next t) : t.dec.state = .syncWait := by
  rcases hi with ⟨d, rfl⟩ | ⟨d, rfl⟩
  · rw [exec_evPulse] at ht
    injection ht with ht
    rcases evPulse_cases d s with ⟨_, e⟩ | ⟨_, e⟩ <;> rw [← ht, e]
    · rfl
    · exact hs
  · rw [exec_evIvSyncGap] at ht
    injection ht with ht
    rcases evInterval_cases (some .syncGap) d s with e | ⟨_, _, _, _, e⟩ | ⟨_, _, hk, _⟩ | ⟨_, _, hk, _⟩ |
      ⟨_, _, hk, _⟩ | ⟨_, _, hk, _⟩ | ⟨_, _, hk, _⟩
    · rw [← ht, e]
      rfl
    · rw [← ht, e]
      exact hs
    all_goals cases hk

theorem execAll_stays_syncWait {is : List Instr}
    (his : ∀ i ∈ is, (∃ d, i = .evPulse d) ∨ ∃ d, i = .evIvSyncGap d) {s : State} (hs : s.dec.state = .syncWait) :
    ∃ t, execAll is s = .next t ∧ t.dec.state = .syncWait := by
  induction is generalizing s with
  | nil => exact ⟨s, rfl, hs⟩
  | cons i is ih =>
    obtain ⟨u, hu⟩ := exec_total i s
    rw [execAll_cons hu]
    exact ih (fun j hj => his j (List.mem_cons_of_mem _ hj))
      (exec_stays_syncWait (his i List.mem_cons_self) hs hu)

/-- A run that is left in SyncWait, and before its last event holds pulses and SyncGaps alone, never leaves it. -/
theorem execAll_take_syncWait {is : List Instr} {i : Instr}
    (his : ∀ j ∈ is, (∃ d, j = .evPulse d) ∨ ∃ d, j = .evIvSyncGap d) {s t : State} (hs : s.dec.state = .syncWait)
    (hrun : execAll (is ++ [i]) s = .next t) (ht : t.dec.state = .syncWait) (n : Nat) :
    ∃ u, execAll ((is ++ [i]).take n) s = .next u ∧ u.dec.state = .syncWait := by
  rcases Nat.lt_or_ge is.length n with hn | hn
  · rw [List.take_of_length_le (by simpa using hn)]
    exact ⟨t, hrun, ht⟩
  · rw [List.take_append_of_le_length hn]
    exact execAll_stays_syncWait (fun j hj => his j (List.mem_of_mem_take hj)) hs

/-- Settles O30: the runs of the three attempts, and the preamble that the decoder must have counted. -/
theorem onlyACompletePreambleIsAccepted : Obligations.OnlyACompletePreambleIsAccepted := by
  intro s p1 p2 p3 g1 g2 g3 hs
  have hstart := attempt_of_reset hs
  have hwait : s.dec.state = .syncWait := by rw [hs]; rfl
  refine ⟨?complete, ?malformed, ?onlyComplete⟩
  case complete =>
    have hrun := execAll_preamble p1 g1 p2 g2 p3 g3 s
    rw [hstart] at hrun
    exact ⟨_, hrun, rfl, rfl, rfl, rfl, rfl, rfl, rfl⟩
  case malformed =>
    rintro is (rfl | rfl)
    · have hrun := execAll_earlySync p1 g1 p2 g2 s
      rw [hstart] at hrun
      refine ⟨⟨_, hrun, raise_violated s⟩, ?_⟩
      exact execAll_take_syncWait (is := [.evPulse p1, .evIvSyncGap g1, .evPulse p2]) (by simp) hwait hrun rfl
    · have hrun := execAll_thirdSyncGap p1 g1 p2 g2 p3 g3 s
      rw [hstart] at hrun
      refine ⟨⟨_, hrun, raise_violated s⟩, ?_⟩
      exact execAll_take_syncWait
        (is := [.evPulse p1, .evIvSyncGap g1, .evPulse p2, .evIvSyncGap g2, .evPulse p3]) (by simp) hwait hrun rfl
  case onlyComplete =>
    intro is t hevents hrun hcollect
    rcases inPreamble_or_holdsPreamble hs is hevents t hrun with ⟨hstate, _⟩ | h
    · rw [hcollect] at hstate
      cases hstate
    · exact h

/-! ## Data bits -/

/-- The two events of a data bit. -/
def bitEvents (p sh lo : U32) (b : Bool) : List Instr := [.evPulse p, if b then .evIvLong lo else .evIvShort sh]

/-- The binary digits shifted in after the number `acc` (20_memory.md R42). -/
theorem foldl_bits_lt (bs : List Bool) (acc m : Nat) (h : acc < 2 ^ m) :
    bs.foldl (fun acc b => 2 * acc + b.toNat) acc < 2 ^ (m + bs.length) := by
  induction bs generalizing acc m with
  | nil => exact h
  | cons b bs ih =>
    have hb := b.toNat_le
    have hnext : 2 * acc + b.toNat < 2 ^ (m + 1) := by rw [Nat.pow_succ]; omega
    rw [List.foldl_cons, List.length_cons, Nat.add_comm bs.length 1, ← Nat.add_assoc]
    exact ih _ _ hnext

/-- The state after a pulse in turn (43_decoder.md R138). -/
def pulsed (d : U32) (s : State) : State :=
  { s with
    dec :=
      { s.dec with
        sumPulse := addSum s.dec.sumPulse d, cntPulse := satInc s.dec.cntPulse, phase := .expectInterval } }

theorem exec_evPulse_pulsed (d : U32) {s : State} (h : s.dec.phase = .expectPulse) :
    exec (.evPulse d) s = .next (pulsed d s) := congrArg Host.Outcome.next (evPulse_of_expectPulse d h)

/-- One data bit (43_decoder.md R138, R142, R143). -/
theorem execAll_bitEvents (p sh lo : U32) (b : Bool) {s : State} (hstate : s.dec.state = .dataCollect)
    (hphase : s.dec.phase = .expectPulse) :
    ∃ t, execAll (bitEvents p sh lo b) s = .next t ∧ t.dec.code = shiftIn s.dec.code b ∧
      t.dec.bitCount = satInc s.dec.bitCount ∧ t.dec.state = .dataCollect ∧ t.dec.phase = .expectPulse := by
  rw [bitEvents, execAll_cons (exec_evPulse_pulsed p hphase), execAll_singleton]
  cases b
  · rw [if_neg Bool.false_ne_true, exec_evIvShort, evInterval_short (s := pulsed p s) sh rfl hstate]
    exact ⟨_, rfl, rfl, rfl, hstate, rfl⟩
  · rw [if_pos rfl, exec_evIvLong, evInterval_long (s := pulsed p s) lo rfl hstate]
    exact ⟨_, rfl, rfl, rfl, hstate, rfl⟩

/-- A row of data bits after `bit_count` others (20_memory.md R42). -/
theorem execAll_flatMap_bitEvents (p sh lo : U32) (bs : List Bool) {s : State} (hstate : s.dec.state = .dataCollect)
    (hphase : s.dec.phase = .expectPulse) (hcode : s.dec.code.toNat < 2 ^ s.dec.bitCount.toNat)
    (hlen : s.dec.bitCount.toNat + bs.length ≤ 80) :
    ∃ t, execAll (bs.flatMap (bitEvents p sh lo)) s = .next t ∧
      t.dec.code.toNat = bs.foldl (fun acc b => 2 * acc + b.toNat) s.dec.code.toNat ∧
      t.dec.bitCount.toNat = s.dec.bitCount.toNat + bs.length ∧ t.dec.state = .dataCollect ∧
      t.dec.phase = .expectPulse := by
  induction bs generalizing s with
  | nil => exact ⟨s, rfl, rfl, rfl, hstate, hphase⟩
  | cons b bs ih =>
    obtain ⟨u, hu, hcode', hbits', hstate', hphase'⟩ := execAll_bitEvents p sh lo b hstate hphase
    rw [List.length_cons] at hlen
    have hbits : u.dec.bitCount.toNat = s.dec.bitCount.toNat + 1 := by
      rw [hbits', satInc_toNat]
      omega
    have hnext : 2 * s.dec.code.toNat + b.toNat < 2 ^ u.dec.bitCount.toNat := by
      have hb := b.toNat_le
      rw [hbits, Nat.pow_succ]
      omega
    have hcodeEq : u.dec.code.toNat = 2 * s.dec.code.toNat + b.toNat := by
      rw [hcode', shiftIn_toNat]
      exact Nat.mod_eq_of_lt (Nat.lt_of_lt_of_le hnext (Nat.pow_le_pow_right (by decide) (by omega)))
    rw [List.flatMap_cons, execAll_append hu]
    obtain ⟨t, ht, htcode, htbits, htstate, htphase⟩ := ih hstate' hphase' (by rwa [hcodeEq]) (by omega)
    refine ⟨t, ht, ?_, ?_, htstate, htphase⟩
    · rw [htcode, hcodeEq, List.foldl_cons]
    · rw [htbits, hbits, List.length_cons]
      omega

/-- Settles O31: the row starts from no bits. -/
theorem bitsAccumulateMostSignificantFirst : Obligations.BitsAccumulateMostSignificantFirst := by
  intro s bits p sh lo hstate hphase hbits hcode hlen
  obtain ⟨t, ht, htcode, htbits, htstate, htphase⟩ :=
    execAll_flatMap_bitEvents p sh lo bits hstate hphase (by simp [hcode, hbits]) (by simpa [hbits] using hlen)
  refine ⟨t, ht, ?_, ?_, htstate, htphase⟩
  · rw [htcode, hcode]
    rfl
  · rw [htbits, hbits]
    simp

end Sys2Proof.Machine

/-! # Proofs: the 80-bit variant, the framer, the flipped bit

The byte level of the packet (44_validator.md R170 to R185; 95_test_vectors.md V-FRM-5). -/

namespace Sys2Proof.Machine

/-! ## Results -/

/-- Settles O33. -/
theorem validateRefusesOtherLengths : Obligations.ValidateRefusesOtherLengths := fun _ _ _ _ h => if_pos h

theorem validateResult_v80 (d : Deployment) {c : Cfg} (code : BitVec 80) (hc : c.variant = .v80) :
    validateResult d c code 80 = validateV80 d c code := by
  simp only [validateResult, hc]
  rfl

theorem validateV80_valid_iff (d : Deployment) (c : Cfg) (code : BitVec 80) :
    (validateV80 d c code).valid = true ↔
      checkByteV80 d c
          [codeByte 80 code 0, codeByte 80 code 1, codeByte 80 code 2, codeByte 80 code 3, codeByte 80 code 4,
            codeByte 80 code 5, codeByte 80 code 6, codeByte 80 code 7, codeByte 80 code 8] =
        codeByte 80 code 9 := beq_iff_eq

theorem checkByteV80_additive (d : Deployment) {c : Cfg} (bs : List Byte) (h : c.chkMode = .additive) :
    checkByteV80 d c bs = add8 bs := by
  simp only [checkByteV80, h]

theorem checkByteV80_crc8 (d : Deployment) {c : Cfg} (bs : List Byte) (h : c.chkMode = .crc8) :
    checkByteV80 d c bs = d.crc8 bs c.crcPoly c.crcInit := by
  simp only [checkByteV80, h]

theorem lowNibbleField_toNat (l : Nat) (code : BitVec 80) (k : Nat) :
    (((codeByte l code k).extractLsb' 0 4).setWidth 32).toNat = code.toNat / 2 ^ (l - 8 - 8 * k) % 16 := by
  rw [BitVec.toNat_setWidth_of_le (by decide), lowNibble_toNat, codeByte_toNat]
  omega

/-- Thirty-two bits: four bytes. -/
theorem fourBytesField_toNat (l : Nat) (code : BitVec 80) (k : Nat) (hnext : 8 * k + 32 ≤ l) :
    (codeByte l code k ++ codeByte l code (k + 1) ++ codeByte l code (k + 2) ++ codeByte l code (k + 3)).toNat =
      code.toNat / 2 ^ (l - 8 - 8 * (k + 3)) % 2 ^ 32 := by
  have h2 : l - 8 - 8 * (k + 2) = l - 8 - 8 * (k + 3) + 8 := by omega
  have h1 : l - 8 - 8 * (k + 1) = l - 8 - 8 * (k + 3) + 16 := by omega
  have h0 : l - 8 - 8 * k = l - 8 - 8 * (k + 3) + 24 := by omega
  simp only [toNat_append_byte, codeByte_toNat, h0, h1, h2, Nat.pow_add, ← Nat.div_div_eq_div_mul]
  omega

/-- Settles O36: each field is read off the bytes that hold it (R176), the check off the configured function (R177). -/
theorem validateV80FieldsAndCheck : Obligations.ValidateV80FieldsAndCheck := by
  intro d c code hc
  refine ⟨validateV80 d c code,
    [codeByte 80 code 0, codeByte 80 code 1, codeByte 80 code 2, codeByte 80 code 3, codeByte 80 code 4,
      codeByte 80 code 5, codeByte 80 code 6, codeByte 80 code 7, codeByte 80 code 8],
    validateResult_v80 d code hc, ?bytes, ?field0, ?field1, ?field2, ?field3, ?field4, ?additive, ?crc8,
    pvResult_err ..⟩
  case bytes => simp [List.range_succ, codeByte_toNat]
  case field0 => exact highNibbleField_toNat 80 code 0
  case field1 => exact lowNibbleField_toNat 80 code 0
  case field2 => exact fourBytesField_toNat 80 code 1 (by decide)
  case field3 => exact fourBytesField_toNat 80 code 5 (by decide)
  case field4 => exact lastByteField_toNat 80 code 9 rfl
  case additive =>
    intro hmode
    rw [validateV80_valid_iff, checkByteV80_additive d _ hmode, ← BitVec.toNat_inj, add8_toNat,
      codeByte_last_toNat 80 code 9 rfl]
  case crc8 =>
    intro hmode
    rw [validateV80_valid_iff, checkByteV80_crc8 d _ hmode, ← BitVec.toNat_inj, codeByte_last_toNat 80 code 9 rfl]

/-! ## A flipped bit -/

/-- A flipped bit changes the byte that holds it and no other. -/
theorem codeByte_flip_eq_iff (l : Nat) (code : BitVec 80) (i k : Nat) (hi : i < 80) :
    codeByte l (code ^^^ BitVec.twoPow 80 i) k = codeByte l code k ↔ ¬(l - 8 - 8 * k ≤ i ∧ i < l - 8 - 8 * k + 8) := by
  constructor
  · rintro h ⟨hlo, hhi⟩
    have hbit := congrArg (fun b => b.getLsbD (i - (l - 8 - 8 * k))) h
    have hadd : l - 8 - 8 * k + (i - (l - 8 - 8 * k)) = i := by omega
    have hlt : i - (l - 8 - 8 * k) < 8 := by omega
    simp [codeByte, hadd, hlt, hi] at hbit
  · intro h
    ext j hj
    have hne : l - 8 - 8 * k + j ≠ i := by omega
    simp [codeByte, BitVec.getLsbD_twoPow, Ne.symm hne]

theorem add8_map_range (n : Nat) (f : Nat → Byte) : add8 ((List.range n).map f) = ∑ k ∈ Finset.range n, f k :=
  List.sum_eq_foldl.symm

/-- Under the additive check each byte follows from the others (44_validator.md R178). -/
theorem add8_determines_byte {n : Nat} {f g : Nat → Byte} (hf : add8 ((List.range n).map f) = f n)
    (hg : add8 ((List.range n).map g) = g n) {m : Nat} (hm : m ≤ n) (hother : ∀ k ≤ n, k ≠ m → f k = g k) :
    f m = g m := by
  rw [add8_map_range] at hf hg
  rcases Nat.lt_or_eq_of_le hm with hlt | rfl
  · have hmem := Finset.mem_range.2 hlt
    have hrest : ∑ k ∈ (Finset.range n).erase m, f k = ∑ k ∈ (Finset.range n).erase m, g k :=
      Finset.sum_congr rfl fun k hk =>
        hother k (Finset.mem_range.1 (Finset.mem_of_mem_erase hk)).le (Finset.ne_of_mem_erase hk)
    have hsum : f m + ∑ k ∈ (Finset.range n).erase m, f k = g m + ∑ k ∈ (Finset.range n).erase m, f k := by
      rw [Finset.add_sum_erase _ f hmem, hrest, Finset.add_sum_erase _ g hmem, hf, hg]
      exact hother n le_rfl (Nat.ne_of_gt hlt)
    exact add_right_cancel hsum
  · rw [← hf, ← hg]
    exact Finset.sum_congr rfl fun k hk =>
      hother k (Finset.mem_range.1 hk).le (Nat.ne_of_lt (Finset.mem_range.1 hk))

/-- A code of `n` bytes and their sum, one bit flipped: the sum no longer is the last byte (44_validator.md R185). -/
theorem add8_flip_ne {n : Nat} {code : BitVec 80} {i : Nat} (hn : n ≤ 9) (hi : i < 8 * n + 8)
    (hvalid : add8 ((List.range n).map (codeByte (8 * n + 8) code)) = codeByte (8 * n + 8) code n) :
    add8 ((List.range n).map (codeByte (8 * n + 8) (code ^^^ BitVec.twoPow 80 i))) ≠
      codeByte (8 * n + 8) (code ^^^ BitVec.twoPow 80 i) n := by
  intro hflip
  have hm : n - i / 8 ≤ n := Nat.sub_le _ _
  have heq := add8_determines_byte hflip hvalid hm fun k hk hne =>
    (codeByte_flip_eq_iff _ code i k (by omega)).2 (by omega)
  exact (codeByte_flip_eq_iff _ code i _ (by omega)).1 heq (by omega)

/-- Settles O37: under either additive check the flipped code has another sum. -/
theorem singleBitFlipFailsTheAdditiveCheck : Obligations.SingleBitFlipFailsTheAdditiveCheck := by
  have fails : ∀ {r : PvResult}, r.err = (if r.valid then 0 else 4) → ¬r.valid = true → r.valid = false ∧ r.err = 4 :=
    fun herr h => ⟨Bool.eq_false_iff.2 h, herr.trans (if_neg h)⟩
  rintro d c code i (⟨hc, hi⟩ | ⟨hc, hmode, hi⟩) hvalid
  · have heq := fun code => validateResult_v40 d code hc
    rw [hc] at hvalid ⊢
    rw [show BitVec.ofNat 8 (Variant.bits .v40) = 40 from rfl] at hvalid ⊢
    rw [heq] at hvalid ⊢
    refine fails (pvResult_err ..) fun hflip => ?_
    exact add8_flip_ne (n := 4) (by decide) hi ((validateV40_valid_iff_add8 _).1 hvalid)
      ((validateV40_valid_iff_add8 _).1 hflip)
  · have heq := fun code => validateResult_v80 d code hc
    rw [hc] at hvalid ⊢
    rw [show BitVec.ofNat 8 (Variant.bits .v80) = 80 from rfl] at hvalid ⊢
    rw [heq] at hvalid ⊢
    refine fails (pvResult_err ..) fun hflip => ?_
    rw [validateV80_valid_iff, checkByteV80_additive d _ hmode] at hvalid hflip
    exact add8_flip_ne (n := 9) (by decide) hi hvalid hflip

end Sys2Proof.Machine

/-! # Proofs: the VALIDATE and FRAME commands

The operands as fields and the packet as a code (44_validator.md R170, R182 to R184; 95_test_vectors.md V-FRM-5). -/

namespace Sys2Proof.Machine

/-! ## VALIDATE -/

theorem argCode_toNat (a : Args) :
    (argCode a).toNat = a.a0.toNat + 2 ^ 32 * a.a1.toNat + 2 ^ 64 * (a.a2.toNat % 2 ^ 16) := by
  simp only [argCode, toNat_append_field, BitVec.extractLsb'_toNat, Nat.shiftRight_zero]
  omega

theorem validateOp_of_not_halted {s : State} (h : s.session ≠ .halted) :
    validateOp s =
      { raiseForResult (validateResult s.deploy s.cfg (argCode s.args) (s.args.a3.extractLsb' 0 8)) s with
        valPv := validateResult s.deploy s.cfg (argCode s.args) (s.args.a3.extractLsb' 0 8) } :=
  gated_of_true _ s (not_halted_eq_true h)

/-- Settles O38. -/
theorem validateCommandReports : Obligations.ValidateCommandReports := by
  refine fun s => ⟨fun h => ?_, fun h => ⟨validateOp s, rfl, gated_refusedOnly _ s (not_halted_eq_false h)⟩⟩
  refine ⟨validateOp s, argCode s.args, s.args.a3.extractLsb' 0 8, rfl, argCode_toNat _, BitVec.extractLsb'_toNat .., ?_⟩
  rw [validateOp_of_not_halted h]
  refine ⟨rfl, ?_⟩
  rcases raiseForResult_cases (validateResult s.deploy s.cfg (argCode s.args) (s.args.a3.extractLsb' 0 8)) s with
    ⟨herr, e⟩ | ⟨herr, e⟩ <;> rw [e]
  · exact ⟨by simp [herr], by simp [herr, satInc_toNat], rfl⟩
  · exact ⟨by rw [beq_eq_false_iff_ne.2 herr, Bool.or_false], (if_neg herr).symm, rfl⟩

/-! ## FRAME -/

theorem frameOp_of_not_halted (v : Variant) {s : State} (h : s.session ≠ .halted) :
    frameOp v s = { s with pkt := framePacket v s, txBits := BitVec.ofNat 7 v.bits } :=
  gated_of_true _ s (not_halted_eq_true h)

theorem frameOp_refused (v : Variant) {s : State} (h : s.session = .halted) : RefusedOnly s (frameOp v s) :=
  gated_refusedOnly _ s (not_halted_eq_false h)

/-- A byte of a low nibble and a third one. -/
theorem nibbles_toNat (a b : U32) :
    (a.extractLsb' 0 4 ++ b.extractLsb' 8 4).toNat = a.toNat % 16 * 16 + b.toNat / 256 % 16 := by
  simp only [toNat_append_field, BitVec.extractLsb'_toNat, Nat.shiftRight_eq_div_pow]
  omega

/-- A byte of two low nibbles. -/
theorem lowNibbles_toNat (a b : U32) :
    (a.extractLsb' 0 4 ++ b.extractLsb' 0 4).toNat = a.toNat % 16 * 16 + b.toNat % 16 := by
  simp only [toNat_append_field, BitVec.extractLsb'_toNat, Nat.shiftRight_zero]
  omega

/-- The bytes of a 32-bit operand, in wire order. -/
theorem operandBytes_toNat (a : U32) :
    [a.extractLsb' 24 8, a.extractLsb' 16 8, a.extractLsb' 8 8, a.extractLsb' 0 8].foldl
      (fun acc (b : Byte) => acc * 256 + b.toNat) 0 = a.toNat := by
  have ha := a.isLt
  simp only [List.foldl_cons, List.foldl_nil, BitVec.extractLsb'_toNat, Nat.shiftRight_eq_div_pow]
  omega

/-- Settles O39, byte by byte from the operands. -/
theorem frameBuildsThePacket : Obligations.FrameBuildsThePacket := by
  refine fun s => ⟨fun h => ⟨⟨frameOp .v40 s, rfl, ?v40⟩, ⟨frameOp .v48 s, rfl, ?v48⟩, ⟨frameOp .v80 s, rfl, ?v80⟩⟩,
    fun h => ⟨⟨_, rfl, frameOp_refused .v40 h⟩, ⟨_, rfl, frameOp_refused .v48 h⟩, ⟨_, rfl, frameOp_refused .v80 h⟩⟩⟩
  all_goals rw [frameOp_of_not_halted _ h]
  case v40 =>
    refine ⟨BitVec.extractLsb'_toNat .., nibbles_toNat _ _, BitVec.extractLsb'_toNat .., BitVec.extractLsb'_toNat ..,
      ?_, rfl, rfl, rfl⟩
    simp [framePacket, packetV40, add8_toNat, Nat.add_assoc]
  case v48 =>
    refine ⟨BitVec.extractLsb'_toNat .., ?_, nibbles_toNat _ _, BitVec.extractLsb'_toNat .., rfl, rfl, rfl, rfl, rfl⟩
    simp only [framePacket, packetV48, BitVec.extractLsb'_toNat, Nat.shiftRight_eq_div_pow]
  case v80 =>
    refine ⟨lowNibbles_toNat _ _, operandBytes_toNat s.args.a2, operandBytes_toNat s.args.a3, fun hmode => ?_,
      fun hmode => checkByteV80_crc8 _ _ hmode, rfl, rfl⟩
    simp only [framePacket, packetV80, checkByteV80_additive _ _ hmode, add8_toNat]
    rfl

/-! ## The packet as a code -/

/-- The first `l` bits of a packet, as the decoder collects them (44_validator.md R171). -/
def packetCode (l : Nat) (p : Packet) : BitVec 80 := p.word >>> (80 - l)

/-- The code of a whole number of bytes is their big-endian number (20_memory.md R41). -/
theorem packetCode_toNat (v : Variant) (p : Packet) : (packetCode v.bits p).toNat = p.memRead 0 (v.bits / 8) := by
  rw [packetCode, BitVec.toNat_ushiftRight, Packet.word_toNat, Nat.shiftRight_eq_div_pow]
  have hbytes := fun b : Byte => b.isLt
  have h5 := hbytes p.b5
  have h6 := hbytes p.b6
  have h7 := hbytes p.b7
  have h8 := hbytes p.b8
  have h9 := hbytes p.b9
  cases v <;> simp [Variant.bits, Packet.memRead, Packet.bytes] <;> omega

/-- Byte `k` of the code is byte `k` of the packet. -/
theorem codeByte_packetCode {l : Nat} (hl : l ≤ 80) (p : Packet) (k : Fin 10) (hk : 8 * k.val + 8 ≤ l) :
    codeByte l (packetCode l p) k = p.byte k := by
  ext j hj
  have hbit := packetBit_word_of_byte p k (7 - j) (by omega)
  have hpos : 80 - l + (l - 8 - 8 * k.val + j) = 79 - (8 * k.val + (7 - j)) := by omega
  have hlow : 7 - (7 - j) = j := by omega
  have hlt : 8 * k.val + (7 - j) < 80 := by omega
  simp [packetBit, BitVec.getMsbD_eq_getLsbD, hlt, hlow, show 7 - j < 8 by omega] at hbit
  simp [codeByte, packetCode, hpos, hbit, hj]

theorem validateResult_bits {d : Deployment} {c : Cfg} (code : BitVec 80) :
    validateResult d c code (BitVec.ofNat 8 c.variant.bits) =
      match c.variant with
      | .v40 => validateV40 code
      | .v48 => validateV48 c code
      | .v80 => validateV80 d c code := by
  unfold validateResult
  cases c.variant <;> rfl

/-- A 32-bit operand put together from its bytes. -/
theorem operandBytes_append (a : U32) :
    a.extractLsb' 24 8 ++ a.extractLsb' 16 8 ++ a.extractLsb' 8 8 ++ a.extractLsb' 0 8 = a :=
  BitVec.eq_of_toNat_eq ((toNat_append_four_bytes _ _ _ _).trans (operandBytes_toNat a))

/-- The 40-bit packet of the operands (44_validator.md R172, R173, R182). -/
theorem validateV40_packetV40 (a : Args) :
    ∃ r, validateV40 (packetCode 40 (packetV40 a)) = r ∧ r.valid = true ∧ r.f0.toNat = a.a0.toNat % 256 ∧
      r.f1.toNat = a.a1.toNat % 16 ∧ r.f2.toNat = a.a2.toNat % 4096 ∧ r.f3.toNat = a.a3.toNat % 256 := by
  have hbyte := fun k : Fin 10 => codeByte_packetCode (l := 40) (by decide) (packetV40 a) k
  have h0 : codeByte 40 (packetCode 40 (packetV40 a)) 0 = a.a0.extractLsb' 0 8 := hbyte 0 (by decide)
  have h1 : codeByte 40 (packetCode 40 (packetV40 a)) 1 = a.a1.extractLsb' 0 4 ++ a.a2.extractLsb' 8 4 :=
    hbyte 1 (by decide)
  have h2 : codeByte 40 (packetCode 40 (packetV40 a)) 2 = a.a2.extractLsb' 0 8 := hbyte 2 (by decide)
  have h3 : codeByte 40 (packetCode 40 (packetV40 a)) 3 = a.a3.extractLsb' 0 8 := hbyte 3 (by decide)
  refine ⟨_, rfl, ?valid, ?field0, ?field1, ?field2, ?field3⟩
  case valid =>
    rw [validateV40_valid_iff_add8, h0, h1, h2, h3]
    exact (hbyte 4 (by decide)).symm
  all_goals simp only [validateV40, pvResult, h0, h1, h2, h3]
  case field0 | field3 => rw [BitVec.toNat_setWidth_of_le (by decide), BitVec.extractLsb'_toNat]; rfl
  case field1 =>
    rw [BitVec.toNat_setWidth_of_le (by decide), highNibble_toNat, nibbles_toNat]
    omega
  case field2 =>
    rw [BitVec.toNat_setWidth_of_le (by decide), toNat_append_byte, lowNibble_toNat, nibbles_toNat,
      BitVec.extractLsb'_toNat, Nat.shiftRight_zero]
    omega

/-- The 48-bit packet of the operands (44_validator.md R174, R175, R183). -/
theorem validateV48_packetV48 (c : Cfg) (a : Args) :
    ∃ r, validateV48 c (packetCode 48 (packetV48 c a)) = r ∧ r.valid = true ∧ r.f0.toNat = a.a0.toNat % 256 ∧
      r.f1.toNat = a.a1.toNat % 4096 ∧ r.f2.toNat = a.a2.toNat % 4096 := by
  have hbyte := fun k : Fin 10 => codeByte_packetCode (l := 48) (by decide) (packetV48 c a) k
  have h0 : codeByte 48 (packetCode 48 (packetV48 c a)) 0 = a.a0.extractLsb' 0 8 := hbyte 0 (by decide)
  have h1 : codeByte 48 (packetCode 48 (packetV48 c a)) 1 = a.a1.extractLsb' 4 8 := hbyte 1 (by decide)
  have h2 : codeByte 48 (packetCode 48 (packetV48 c a)) 2 = a.a1.extractLsb' 0 4 ++ a.a2.extractLsb' 8 4 :=
    hbyte 2 (by decide)
  have h3 : codeByte 48 (packetCode 48 (packetV48 c a)) 3 = a.a2.extractLsb' 0 8 := hbyte 3 (by decide)
  refine ⟨_, rfl, ?valid, ?field0, ?field1, ?field2⟩
  case valid => exact (validateV48_valid_iff_markers c _).2 ⟨hbyte 4 (by decide), hbyte 5 (by decide)⟩
  all_goals simp only [validateV48, pvResult, h0, h1, h2, h3]
  case field0 => rw [BitVec.toNat_setWidth_of_le (by decide), BitVec.extractLsb'_toNat]; rfl
  case field1 =>
    rw [BitVec.toNat_setWidth_of_le (by decide), toNat_append_field, highNibble_toNat, nibbles_toNat,
      BitVec.extractLsb'_toNat, Nat.shiftRight_eq_div_pow]
    omega
  case field2 =>
    rw [BitVec.toNat_setWidth_of_le (by decide), toNat_append_byte, lowNibble_toNat, nibbles_toNat,
      BitVec.extractLsb'_toNat, Nat.shiftRight_zero]
    omega

/-- The 80-bit packet of the operands, whichever check is configured (44_validator.md R176, R177, R184). -/
theorem validateV80_packetV80 (d : Deployment) (c : Cfg) (a : Args) :
    ∃ r, validateV80 d c (packetCode 80 (packetV80 d c a)) = r ∧ r.valid = true ∧ r.f0.toNat = a.a0.toNat % 16 ∧
      r.f1.toNat = a.a1.toNat % 16 ∧ r.f2 = a.a2 ∧ r.f3 = a.a3 := by
  have hbyte := fun k : Fin 10 => codeByte_packetCode (l := 80) (by decide) (packetV80 d c a) k
  have h0 : codeByte 80 (packetCode 80 (packetV80 d c a)) 0 = a.a0.extractLsb' 0 4 ++ a.a1.extractLsb' 0 4 :=
    hbyte 0 (by decide)
  have h1 : codeByte 80 (packetCode 80 (packetV80 d c a)) 1 = a.a2.extractLsb' 24 8 := hbyte 1 (by decide)
  have h2 : codeByte 80 (packetCode 80 (packetV80 d c a)) 2 = a.a2.extractLsb' 16 8 := hbyte 2 (by decide)
  have h3 : codeByte 80 (packetCode 80 (packetV80 d c a)) 3 = a.a2.extractLsb' 8 8 := hbyte 3 (by decide)
  have h4 : codeByte 80 (packetCode 80 (packetV80 d c a)) 4 = a.a2.extractLsb' 0 8 := hbyte 4 (by decide)
  have h5 : codeByte 80 (packetCode 80 (packetV80 d c a)) 5 = a.a3.extractLsb' 24 8 := hbyte 5 (by decide)
  have h6 : codeByte 80 (packetCode 80 (packetV80 d c a)) 6 = a.a3.extractLsb' 16 8 := hbyte 6 (by decide)
  have h7 : codeByte 80 (packetCode 80 (packetV80 d c a)) 7 = a.a3.extractLsb' 8 8 := hbyte 7 (by decide)
  have h8 : codeByte 80 (packetCode 80 (packetV80 d c a)) 8 = a.a3.extractLsb' 0 8 := hbyte 8 (by decide)
  refine ⟨_, rfl, ?valid, ?field0, ?field1, ?field2, ?field3⟩
  case valid =>
    rw [validateV80_valid_iff, h0, h1, h2, h3, h4, h5, h6, h7, h8]
    exact (hbyte 9 (by decide)).symm
  all_goals simp only [validateV80, pvResult, h0, h1, h2, h3, h4, h5, h6, h7, h8]
  case field0 =>
    rw [BitVec.toNat_setWidth_of_le (by decide), highNibble_toNat, lowNibbles_toNat]
    omega
  case field1 =>
    rw [BitVec.toNat_setWidth_of_le (by decide), lowNibble_toNat, lowNibbles_toNat]
    omega
  case field2 => exact operandBytes_append a.a2
  case field3 => exact operandBytes_append a.a3

/-- Settles O40: the packet's bytes are the code's, so each variant's check meets the byte that FRAME made for it. -/
theorem framedPacketValidates : Obligations.FramedPacketValidates := by
  intro s
  have hcode := packetCode_toNat s.cfg.variant (framePacket s.cfg.variant s)
  have hresult := validateResult_bits (d := s.deploy) (c := s.cfg)
    (packetCode s.cfg.variant.bits (framePacket s.cfg.variant s))
  refine ⟨packetCode s.cfg.variant.bits (framePacket s.cfg.variant s), _, hcode, rfl, ?_⟩
  rw [hresult]
  cases hv : s.cfg.variant
  case v40 =>
    obtain ⟨_, rfl, hvalid, hfields⟩ := validateV40_packetV40 s.args
    exact ⟨hvalid, (pvResult_err ..).trans (if_pos hvalid), fun _ => hfields, nofun, nofun⟩
  case v48 =>
    obtain ⟨_, rfl, hvalid, hfields⟩ := validateV48_packetV48 s.cfg s.args
    exact ⟨hvalid, (pvResult_err ..).trans (if_pos hvalid), nofun, fun _ => hfields, nofun⟩
  case v80 =>
    obtain ⟨_, rfl, hvalid, hfields⟩ := validateV80_packetV80 s.deploy s.cfg s.args
    exact ⟨hvalid, (pvResult_err ..).trans (if_pos hvalid), nofun, nofun, fun _ => hfields⟩

end Sys2Proof.Machine

/-! # Proofs: commands

ENCODE, CAL_LOAD, CAL_FAIL, LOCK, RX_START and the cancels: accepted, refused, and in Halted (40_calibrator.md R90, R92;
41_encoder.md R100, R101; 45_host_control.md R198 to R205). -/

namespace Sys2Proof.Machine

/-! ## ENCODE -/

/-- Settles O41: rounding half up is adding a half before the floor. -/
theorem scaledRoundsToNearest : Obligations.ScaledRoundsToNearest := by
  intro scale n
  have hone : (0x00010000#32).toNat = 65536 := rfl
  simp only [scaled, hone, Nat.mul_assoc 2]
  omega

/-- Settles O42. -/
theorem encodeLatchesAndStarts : Obligations.EncodeLatchesAndStarts := by
  intro s hrun hidle hbitsMin hbitsMax hrepsMin hrepsMax hdur
  have hadm := (encodeAdmitted_iff s).2 ⟨hrun, hidle, hbitsMin, hbitsMax, hrepsMin, hrepsMax, hdur⟩
  refine ⟨encodeStart s, ?_, fun k => encode_lut_toNat (hdur k).2, rfl, rfl⟩
  rw [exec_encode, encodeOp_eq, gated_of_true _ s hadm]

/-- Settles O43: each failed check contradicts its clause of the admission. -/
theorem encodeRefusesBadOperands : Obligations.EncodeRefusesBadOperands := by
  intro s hbad
  refine ⟨encodeOp s, rfl, gated_refusedOnly _ s (Bool.eq_false_iff.2 fun hadm => ?_)⟩
  obtain ⟨hrun, hidle, hbitsMin, hbitsMax, hrepsMin, hrepsMax, hdur⟩ := (encodeAdmitted_iff s).1 hadm
  rcases hbad with h | h | h | h | h | h | ⟨k, h⟩
  · exact h hrun
  · rw [hidle] at h
    cases h
  · omega
  · omega
  · omega
  · omega
  · have hk := hdur k
    omega

/-! ## The calibrator -/

theorem raise_calibration_halted (s : State) : HaltedByCalibration s (raise .calibrationFailure s) := rfl

/-- Settles O49. -/
theorem calLoadComputesTheScale : Obligations.CalLoadComputesTheScale := by
  rintro s _ rfl
  have hden : calDivisor s.args.a1 s.args.a2 = 2 * s.args.a1.toNat * s.args.a2.toNat := rfl
  have hquot : calQuotient s.args.a0 s.args.a1 s.args.a2 =
      s.args.a0.toNat * 65536 / (2 * s.args.a1.toNat * s.args.a2.toNat) := rfl
  have hcases := calLoadOp_cases s
  rw [hden, hquot] at hcases
  refine ⟨fun hconfig hne h0 hlt => ⟨calLoadOp s, rfl, ?_⟩, fun hconfig hbad => ⟨calLoadOp s, rfl, ?_⟩,
    fun hne => ⟨calLoadOp s, rfl, gated_refusedOnly _ s (beq_eq_false_iff_ne.2 hne)⟩⟩
  · rcases hcases with ⟨hne', _⟩ | ⟨_, hbad, _⟩ | ⟨_, _, _, _, e⟩
    · exact absurd hconfig hne'
    · rcases hbad with hbad | hbad | hbad
      · exact absurd hbad hne
      · exact absurd hbad h0
      · omega
    · rw [e]
      exact ⟨by rw [BitVec.toNat_ofNat, Nat.mod_eq_of_lt hlt], rfl⟩
  · rcases hcases with ⟨hne', _⟩ | ⟨_, _, e⟩ | ⟨_, hne, h0, hlt, _⟩
    · exact absurd hconfig hne'
    · rw [e]
      exact raise_calibration_halted s
    · rcases hbad with hbad | hbad | hbad
      · exact absurd hbad hne
      · exact absurd hbad h0
      · omega

/-- Settles O50. -/
theorem calFailHaltsTheSession : Obligations.CalFailHaltsTheSession := by
  refine fun s => ⟨fun h => ⟨calFailOp s, rfl, ?_⟩,
    fun h => ⟨calFailOp s, rfl, gated_refusedOnly _ s (not_halted_eq_false h)⟩⟩
  rw [calFailOp, gated_of_true _ s (not_halted_eq_true h)]
  exact raise_calibration_halted s

/-! ## The session -/

/-- Settles O51. -/
theorem lockStartsTheSession : Obligations.LockStartsTheSession := by
  refine fun s => ⟨fun hconfig hnominal hbits => ?_, fun hbad => ⟨lockOp s, rfl, ?_⟩⟩
  · rw [exec_lock, lockOp, gated_of_true _ s ((lock_iff s).2 ⟨hconfig, hnominal, hbits⟩)]
  · refine gated_refusedOnly _ s (Bool.eq_false_iff.2 fun hadm => ?_)
    obtain ⟨hconfig, hnominal, hbits⟩ := (lock_iff s).1 hadm
    rcases hbad with h | ⟨k, h⟩ | h
    · exact h hconfig
    · exact hnominal k h
    · exact hbits h

/-- Settles O52. -/
theorem rxStartRestartsTheReceiver : Obligations.RxStartRestartsTheReceiver := fun s =>
  ⟨fun h => congrArg Host.Outcome.next (gated_of_true _ s (beq_iff_eq.2 h)),
    fun h => ⟨rxStartOp s, rfl, gated_refusedOnly _ s (beq_eq_false_iff_ne.2 h)⟩⟩

theorem exec_rxCancel_of_not_halted {s : State} (h : s.session ≠ .halted) : exec .rxCancel s = .next (stopRx s) :=
  congrArg Host.Outcome.next (gated_of_true _ s (not_halted_eq_true h))

theorem exec_txCancel_of_not_halted {s : State} (h : s.session ≠ .halted) : exec .txCancel s = .next (stopTx s) :=
  congrArg Host.Outcome.next (gated_of_true _ s (not_halted_eq_true h))

/-- Settles O53. -/
theorem cancelsStopOneChannel : Obligations.CancelsStopOneChannel := fun s =>
  ⟨fun h => ⟨exec_rxCancel_of_not_halted h, exec_txCancel_of_not_halted h⟩,
    fun h => ⟨⟨rxCancelOp s, rfl, gated_refusedOnly _ s (not_halted_eq_false h)⟩,
      ⟨txCancelOp s, rfl, gated_refusedOnly _ s (not_halted_eq_false h)⟩⟩⟩

/-- Settles O54: each cancel stops its channel, and the session phase stays. -/
theorem cancelsAreIdempotentAndCommute : Obligations.CancelsAreIdempotentAndCommute := by
  intro s h
  have hrx := exec_rxCancel_of_not_halted h
  have htx := exec_txCancel_of_not_halted h
  have hrxRx := exec_rxCancel_of_not_halted (s := stopRx s) h
  have hrxTx := exec_rxCancel_of_not_halted (s := stopTx s) h
  have htxTx := exec_txCancel_of_not_halted (s := stopTx s) h
  have htxRx := exec_txCancel_of_not_halted (s := stopRx s) h
  refine ⟨?rxTwice, ?txTwice, ?commute, fun t ht => ?afterRx, fun t ht => ?afterTx⟩
  case rxTwice => rw [execAll_cons hrx, execAll_singleton, execAll_singleton, hrxRx, hrx]; rfl
  case txTwice => rw [execAll_cons htx, execAll_singleton, execAll_singleton, htxTx, htx]; rfl
  case commute => rw [execAll_cons hrx, execAll_cons htx, execAll_singleton, execAll_singleton, htxRx, hrxTx]; rfl
  case afterRx =>
    rw [hrx] at ht
    injection ht with ht
    subst ht
    refine ⟨rfl, Bool.eq_false_iff.2 fun hready => ?_, fun l ts => ?_⟩
    · obtain ⟨_, hen, _⟩ := (wdReady_iff _).1 hready
      cases hen
    · rw [exec_edge, edgeOp_of_not_receiving l ts (fun ⟨_, hen⟩ => by cases hen)]
  case afterTx =>
    rw [htx] at ht
    injection ht with ht
    subst ht
    exact ⟨rfl, rfl, congrArg Host.Outcome.next (seqOp_of_idle rfl)⟩

end Sys2Proof.Machine

/-! # Proofs: writes to the register file

What a write stores and refuses (45_host_control.md R195, R197, R203 to R205; 10_state.md R16 to R23), and RESET
(70_reset_and_hazards.md R250). -/

namespace Sys2Proof.Machine

/-! ## The register map -/

theorem regMap_registers_nodup : (regMap.map (·.2)).Nodup := by decide +kernel

theorem regOf_mem {n : Byte} {r : Reg} (h : regOf n = some r) : (n, r) ∈ regMap := by
  obtain ⟨⟨n', r'⟩, hfind, hr⟩ := Option.map_eq_some_iff.1 h
  have hfound := List.find?_some hfind
  have hn : n' = n := beq_iff_eq.1 hfound
  have hr' : r' = r := hr
  rw [← hn, ← hr']
  exact List.mem_of_find?_eq_some hfind

/-- A register has one number (10_state.md R16). -/
theorem regOf_injective {m n : Byte} {r : Reg} (hm : regOf m = some r) (hn : regOf n = some r) : m = n :=
  congrArg Prod.fst
    (List.inj_on_of_nodup_map regMap_registers_nodup (regOf_mem hm) (regOf_mem hn) (rfl : (m, r).2 = (n, r).2))

theorem readNumber_of_regOf {n : Byte} {r : Reg} (s : State) (h : regOf n = some r) : readNumber n s = r.read s :=
  readNumber_of_mem s (regOf_mem h)

/-! ## Reading back what was stored -/

theorem and_ones (data : U32) : data &&& 0xFFFFFFFF#32 = data := BitVec.and_allOnes

/-- A value that fits a narrow register is read back from it. -/
theorem setWidth_setWidth_of_lt {w : Nat} {data : U32} (hw : w ≤ 32) (h : data.toNat < 2 ^ w) :
    (data.setWidth w).setWidth 32 = data := by
  apply BitVec.eq_of_toNat_eq
  rw [BitVec.toNat_setWidth_of_le hw, BitVec.toNat_setWidth, Nat.mod_eq_of_lt h]

theorem variantOfCode_code : ∀ {c : BitVec 2} {v : Variant}, variantOfCode c = some v → v.code = c := by
  decide

/-- `PVCFG` as it is stored: every field whole, the bits between them 0 (10_state.md R23). -/
theorem pvcfg_fields (data : U32) :
    0#8 ++ data.extractLsb' 16 8 ++ data.extractLsb' 8 8 ++ 0#5 ++ bit (data.getLsbD 2) ++ data.extractLsb' 0 2 =
      data &&& 0x00FFFF07#32 := by
  have hdata : data =
      data.extractLsb' 24 8 ++ data.extractLsb' 16 8 ++ data.extractLsb' 8 8 ++ data.extractLsb' 3 5 ++
        data.extractLsb' 2 1 ++ data.extractLsb' 0 2 := by
    have hlt := data.isLt
    apply BitVec.eq_of_toNat_eq
    simp only [toNat_append_field, BitVec.extractLsb'_toNat, Nat.shiftRight_eq_div_pow]
    omega
  have hmask : 0x00FFFF07#32 = 0#8 ++ 0xFF#8 ++ 0xFF#8 ++ 0#5 ++ 1#1 ++ 3#2 := by decide
  have hbit : bit (data.getLsbD 2) = data.extractLsb' 2 1 := by
    ext i hi
    obtain rfl : i = 0 := by omega
    simp [bit]
  have hfields : ∀ (a b c : BitVec 8) (d : BitVec 5) (e : BitVec 1) (f : BitVec 2),
      (a ++ b ++ c ++ d ++ e ++ f) &&& (0#8 ++ 0xFF#8 ++ 0xFF#8 ++ 0#5 ++ 1#1 ++ 3#2) =
        0#8 ++ b ++ c ++ 0#5 ++ e ++ f := by
    intro a b c d e f
    rw [BitVec.and_append, BitVec.and_append, BitVec.and_append, BitVec.and_append, BitVec.and_append]
    simp only [BitVec.and_zero, show 0xFF#8 = BitVec.allOnes 8 from rfl, show 1#1 = BitVec.allOnes 1 from rfl,
      show 3#2 = BitVec.allOnes 2 from rfl, BitVec.and_allOnes]
  rw [hbit, hmask]
  conv_rhs => rw [hdata]
  exact (hfields _ _ _ _ _ _).symm

/-- `MARKERS` as it is stored: the two bytes (10_state.md R23). -/
theorem markers_fields (data : U32) :
    0#16 ++ data.extractLsb' 8 8 ++ data.extractLsb' 0 8 = data &&& 0x0000FFFF#32 := by
  apply BitVec.eq_of_toNat_eq
  rw [BitVec.toNat_and, show (0x0000FFFF#32).toNat = 2 ^ 16 - 1 from rfl, Nat.and_two_pow_sub_one_eq_mod]
  simp only [toNat_append_field, BitVec.extractLsb'_toNat, Nat.shiftRight_eq_div_pow, BitVec.toNat_ofNat]
  omega

/-- `PKT_W2` as it is stored: the two upper bytes (10_state.md R26). -/
theorem pktW2_fields (data : U32) :
    data.extractLsb' 24 8 ++ data.extractLsb' 16 8 ++ 0#16 = data &&& 0xFFFF0000#32 := by
  have hdata : data = data.extractLsb' 24 8 ++ data.extractLsb' 16 8 ++ data.extractLsb' 0 16 := by
    have hlt := data.isLt
    apply BitVec.eq_of_toNat_eq
    simp only [toNat_append_field, BitVec.extractLsb'_toNat, Nat.shiftRight_eq_div_pow]
    omega
  have hfields : ∀ (a b : BitVec 8) (c : BitVec 16), (a ++ b ++ c) &&& (0xFF#8 ++ 0xFF#8 ++ 0#16) = a ++ b ++ 0#16 := by
    intro a b c
    rw [BitVec.and_append, BitVec.and_append, BitVec.and_zero, show 0xFF#8 = BitVec.allOnes 8 from rfl,
      BitVec.and_allOnes, BitVec.and_allOnes]
  rw [show 0xFFFF0000#32 = 0xFF#8 ++ 0xFF#8 ++ 0#16 by decide]
  conv_rhs => rw [hdata]
  exact (hfields _ _ _).symm

/-- The implemented bits of a register (10_state.md R16, R23, R26). -/
def Reg.mask : Reg → U32
  | .pvcfg => 0x00FFFF07#32
  | .markers => 0x0000FFFF#32
  | .pktW2 => 0xFFFF0000#32
  | _ => 0xFFFFFFFF#32

/-- A legal value that a HOST may write is read back in its implemented bits (45_host_control.md R195). -/
theorem Reg.read_store_same {r : Reg} {data : U32} (s : State) (hacc : r.access = .rwc ∨ r.access = .rw)
    (hl : r.legal data = true) : r.read (r.store data s) = data &&& r.mask := by
  cases r
  case pvcfg =>
    obtain ⟨v, hv⟩ := Option.isSome_iff_exists.1 hl
    have hchk : (if data.getLsbD 2 = true then ChkMode.crc8 else ChkMode.additive).bit = data.getLsbD 2 := by
      cases data.getLsbD 2 <;> rfl
    simp only [Reg.read, Reg.store, Cfg.pvcfgWord, hv, Option.getD_some, variantOfCode_code hv, hchk]
    exact pvcfg_fields data
  case markers => exact markers_fields data
  case pktW2 => exact pktW2_fields data
  case expectedBits =>
    have hrange : 1 ≤ data.toNat ∧ data.toNat ≤ 80 := by simpa [Reg.legal] using hl
    exact (setWidth_setWidth_of_lt (by decide) (by omega)).trans (and_ones data).symm
  case txBits | txRepeats =>
    have hrange : data.toNat ≤ 127 := of_decide_eq_true hl
    exact (setWidth_setWidth_of_lt (by decide) (by omega)).trans (and_ones data).symm
  case tol k =>
    have hrange : data.toNat ≤ 99 := of_decide_eq_true hl
    simp only [Reg.read, Reg.store, PerKind.get_set, if_true]
    exact (setWidth_setWidth_of_lt (by decide) (by omega)).trans (and_ones data).symm
  case nominal k =>
    simp only [Reg.read, Reg.store, PerKind.get_set, if_true]
    exact (and_ones data).symm
  case arg i =>
    simp only [Reg.read, Reg.store, Args.get_set, if_true]
    exact (and_ones data).symm
  case pktW0 | pktW1 => exact (operandBytes_append data).trans (and_ones data).symm
  case wdUs | scale => exact (and_ones data).symm
  all_goals simp [Reg.access] at hacc

/-- Storing one register leaves the others, but for the bounds of a written profile entry (10_state.md R16, R20). -/
theorem Reg.read_store_other {r r' : Reg} (data : U32) (s : State) (hne : r' ≠ r)
    (hbound : ∀ k, r = .nominal k ∨ r = .tol k → r' ≠ .lo k ∧ r' ≠ .hi k) : r'.read (r.store data s) = r'.read s := by
  cases r
  case nominal k =>
    obtain ⟨hlo, hhi⟩ := hbound k (.inl rfl)
    cases r'
    case nominal j | lo j | hi j =>
      have hj : j ≠ k := by
        rintro rfl
        contradiction
      simp only [Reg.read, Reg.store, Cfg.lo, Cfg.hi, PerKind.get_set, if_neg hj]
    all_goals rfl
  case tol k =>
    obtain ⟨hlo, hhi⟩ := hbound k (.inr rfl)
    cases r'
    case tol j | lo j | hi j =>
      have hj : j ≠ k := by
        rintro rfl
        contradiction
      simp only [Reg.read, Reg.store, Cfg.lo, Cfg.hi, PerKind.get_set, if_neg hj]
    all_goals rfl
  case arg i =>
    cases r'
    case arg j =>
      have hj : j ≠ i := fun he => hne (by rw [he])
      simp only [Reg.read, Reg.store, Args.get_set, if_neg hj]
    all_goals rfl
  case expectedBits | wdUs | scale | pvcfg | markers | txBits | txRepeats | pktW0 | pktW1 | pktW2 =>
    cases r'
    all_goals first | exact absurd rfl hne | rfl
  all_goals rfl

/-! ## Writes -/

theorem regOf_cmd : regOf 0x00#8 = some .cmd := (regOf_cmd_err 0x00#8).1.2 rfl

theorem regOf_err : regOf 0x02#8 = some .err := (regOf_cmd_err 0x02#8).2.2 rfl

theorem cfgWriteOp_of_register {n : Byte} (data : U32) (s : State) (h0 : n ≠ 0x00#8) (h2 : n ≠ 0x02#8) :
    cfgWriteOp n data s = registerWrite n data s := by
  rcases cfgWriteOp_cases n data s with ⟨h, _⟩ | ⟨h, _⟩ | ⟨_, _, e⟩
  · exact absurd h h0
  · exact absurd h h2
  · exact e

theorem registerWrite_of_regOf {n : Byte} {r : Reg} (data : U32) (s : State) (h : regOf n = some r) :
    registerWrite n data s = gated (r.writable s.session && r.legal data) (r.store data) s := by
  simp only [registerWrite, h]

theorem Reg.writable_of_access {r : Reg} {s : State}
    (h : r.access = .rwc ∧ s.session = .config ∨ r.access = .rw ∧ s.session ≠ .halted) :
    r.writable s.session = true := by
  rcases h with ⟨hacc, hs⟩ | ⟨hacc, hs⟩
  · simp only [Reg.writable, hacc, hs]
  · cases hses : s.session <;> simp_all [Reg.writable]

theorem Reg.not_writable {r : Reg} {s : State}
    (h : s.session = .halted ∨ r.access = .ro ∨ r.access = .rwc ∧ s.session ≠ .config) :
    r.writable s.session = false := by
  rcases h with hs | hacc | ⟨hacc, hs⟩
  · cases hacc : r.access <;> simp only [Reg.writable, hacc, hs]
  · simp only [Reg.writable, hacc]
  · cases hses : s.session <;> simp_all [Reg.writable]

/-- Settles O55: the admitted write is the store, and each register reads only its own storage. -/
theorem legalWriteReadsBack : Obligations.LegalWriteReadsBack := by
  intro n data r s hn hacc hl
  have hrw : r.access = .rwc ∨ r.access = .rw := hacc.imp And.left And.left
  have hstore : cfgWriteOp n data s = r.store data s := by
    have h0 : n ≠ 0x00#8 := by
      rintro rfl
      rw [regOf_cmd] at hn
      obtain rfl := Option.some.inj hn
      simp [Reg.access] at hrw
    have h2 : n ≠ 0x02#8 := by
      rintro rfl
      rw [regOf_err] at hn
      obtain rfl := Option.some.inj hn
      simp [Reg.access] at hrw
    rw [cfgWriteOp_of_register data s h0 h2, registerWrite_of_regOf data s hn,
      gated_of_true _ s (Bool.and_eq_true_iff.2 ⟨Reg.writable_of_access hacc, hl⟩)]
  have hframe := r.store_frame data s
  refine ⟨r.store data s, by rw [exec_cfgWrite, hstore], ?same, by rw [hframe], by rw [hframe], by rw [hframe],
    by rw [hframe], by rw [hframe], by rw [hframe], fun m hm hbounds => ?other⟩
  case same =>
    rw [readNumber_of_regOf _ hn, Reg.read_store_same s hrw hl]
    cases r <;> rfl
  case other =>
    cases hr' : regOf m with
    | none => rw [readNumber_of_unlisted _ hr', readNumber_of_unlisted _ hr']
    | some r' =>
      rw [readNumber_of_regOf _ hr', readNumber_of_regOf _ hr']
      refine Reg.read_store_other data s (fun he => hm (regOf_injective (he ▸ hr') hn)) fun k hk => ?_
      obtain ⟨hlo, hhi⟩ := hbounds k hk
      exact ⟨fun he => hlo (he ▸ hr'), fun he => hhi (he ▸ hr')⟩

/-- Settles O56: such a write is not admitted. -/
theorem illegalWriteIsRefused : Obligations.IllegalWriteIsRefused := by
  intro n data s h0 h2 hbad
  refine ⟨cfgWriteOp n data s, rfl, ?_⟩
  rw [cfgWriteOp_of_register data s h0 h2]
  cases hn : regOf n with
  | none =>
    simp only [registerWrite, hn]
    exact raise_config_refusedOnly s
  | some r =>
    rw [registerWrite_of_regOf data s hn]
    refine gated_refusedOnly _ s (Bool.and_eq_false_iff.2 ?_)
    rcases hbad with hs | hnone | ⟨r', hr', hacc | hacc | hl⟩
    · exact .inl (Reg.not_writable (.inl hs))
    · rw [hn] at hnone
      cases hnone
    all_goals obtain rfl : r = r' := Option.some.inj (hn.symm.trans hr')
    · exact .inl (Reg.not_writable (.inr (.inl hacc)))
    · exact .inl (Reg.not_writable (.inr (.inr hacc)))
    · exact .inr hl

/-- A sticky bit after a write: cleared where the written bit is 1 (45_host_control.md R203). -/
theorem stickyBit_iff (b : Bool) (data : U32) (i : Nat) :
    (b && !data.getLsbD i) = true ↔ b = true ∧ data.toNat / 2 ^ i % 2 = 0 := by
  rw [Bool.and_eq_true_iff, Bool.not_eq_true', BitVec.getLsbD, Nat.testBit_eq_decide_div_mod_eq,
    decide_eq_false_iff_not, Nat.mod_two_not_eq_one]

theorem cfgWriteOp_err (data : U32) (s : State) :
    cfgWriteOp 0x02#8 data s = { s with err := s.err.writeOneToClear data } := by
  simp only [cfgWriteOp, regOf_err]

/-- Settles O57. -/
theorem errIsWriteOneToClear : Obligations.ErrIsWriteOneToClear := by
  intro data s
  refine ⟨cfgWriteOp 0x02#8 data s, rfl, ?_⟩
  rw [cfgWriteOp_err]
  exact ⟨rfl, stickyBit_iff s.err.cfgErr data 1, stickyBit_iff s.err.chkFail data 2, rfl⟩

/-! ## Commands -/

theorem cfgWriteOp_cmd (data : U32) (s : State) : cfgWriteOp 0x00#8 data s = commandOp (data.extractLsb' 0 8) s := by
  simp only [cfgWriteOp, regOf_cmd]

/-- In Halted every command is refused, by its own check or by the dispatch (45_host_control.md R204, R205). -/
theorem exec_decodeCommand_of_halted {s : State} (h : s.session = .halted) (v : Variant) (c : Byte) :
    exec (decodeCommand v c) s = .next (raise .configurationError s) := by
  have hgated : ∀ {ok : Bool} (op : State → State), ok = false →
      (Host.Outcome.next (gated ok op s) : Result) = .next (raise .configurationError s) := by
    rintro _ op rfl
    rfl
  have hnot := not_halted_eq_false h
  unfold decodeCommand
  split
  case h_1 => exact hgated _ (by simp [h])
  case h_2 => exact hgated _ (by simp [h])
  case h_4 => exact hgated _ (by simp [encodeAdmitted, h])
  case h_6 => exact hgated _ (by simp [h])
  case h_9 => cases v <;> exact hgated _ hnot
  case h_11 => rfl
  all_goals exact hgated _ hnot

theorem exec_decodeCommand {s : State} (h : s.session ≠ .halted) (c : Byte) :
    exec (decodeCommand s.cfg.variant c) s = .next (commandOp c s) := by
  unfold decodeCommand
  split
  case h_9 hcode =>
    simp only [commandOp, if_neg h, hcode]
    cases s.cfg.variant <;> rfl
  case h_11 =>
    unfold commandOp
    rw [if_neg h]
    split
    case h_11 => rfl
    all_goals next hcode => exact absurd hcode (by assumption)
  all_goals
    next hcode =>
      simp only [commandOp, if_neg h, hcode]
      rfl

/-- Settles O58: the dispatch runs the decoded command, and in Halted both refuse. -/
theorem writeToCmdRunsTheCommand : Obligations.WriteToCmdRunsTheCommand := by
  refine fun s => ⟨fun data => ?_, fun c => ⟨_, rfl, raise_config_refusedOnly s⟩⟩
  rw [exec_cfgWrite, cfgWriteOp_cmd]
  by_cases h : s.session = .halted
  · rw [exec_decodeCommand_of_halted h, commandOp, if_pos h]
  · rw [exec_decodeCommand h]

/-! ## Reset -/

/-- No register shows the deployment or the inputs to come. -/
theorem Reg.read_world (r : Reg) (s : State) (d : Deployment) (inputs : List Stimulus) :
    r.read { s with deploy := d, pending := inputs } = r.read s := by
  cases r <;> rfl

/-- The contents of every register after reset (10_state.md R33). -/
theorem Reg.read_reset (r : Reg) : r.read State.reset = if r = .scale then 0x00010000#32 else 0#32 := by
  cases r
  case nominal k | tol k | lo k | hi k | t k => cases k <;> decide
  case arg i | outF i | valF i => fin_cases i <;> decide
  all_goals decide

theorem regOf_scale_iff (n : Byte) : regOf n = some .scale ↔ n = 0x05#8 := by
  have h5 : regOf 0x05#8 = some .scale := regOf_of_mem (0x05#8, .scale) (by decide)
  exact ⟨fun h => regOf_injective h h5, fun h => h ▸ h5⟩

/-- Settles O60: the whole state is the reset state, and every register reads from it. -/
theorem resetRestoresEverything : Obligations.ResetRestoresEverything := by
  intro s
  refine ⟨resetOp s, rfl, fun n => ?_, rfl, rfl, rfl, rfl, rfl, rfl, rfl, rfl, rfl, rfl, rfl, rfl, rfl⟩
  have hscale := regOf_scale_iff n
  cases hn : regOf n with
  | none =>
    rw [hn] at hscale
    rw [readNumber_of_unlisted _ hn, if_neg fun he => by cases hscale.2 he]
    rfl
  | some r =>
    rw [hn, Option.some_inj] at hscale
    rw [readNumber_of_regOf _ hn, resetOp, Reg.read_world, Reg.read_reset]
    simp only [hscale]

end Sys2Proof.Machine

/-! # Proofs: the plan

A plan is a row of marks, a pulse and a gap of some kind (41_encoder.md R102 to R104); the sequencer hands over what is
left of it. -/

namespace Sys2Proof.Machine

/-! ## The plan as a row of marks -/

/-- A pulse and the gap of a kind. -/
def mark (t : PerKind U32) (k : Kind) : List Segment := [⟨true, t.pulse⟩, ⟨false, t.get k⟩]

/-- The kind of gap that carries a data bit (41_encoder.md R102). -/
def bitKind (b : Bool) : Kind := if b then .long else .short

/-- The kinds of the gaps of one frame (41_encoder.md R104). -/
def frameKinds (bits : List Bool) : List Kind := .syncGap :: .syncGap :: .sync :: (bits.map bitKind ++ [.gap])

/-- The kinds of the gaps of a plan. -/
def planKinds (bits : List Bool) (reps : Nat) : List Kind := (List.replicate reps (frameKinds bits)).flatten

theorem planBit_eq_mark (t : PerKind U32) (b : Bool) : planBit t b = mark t (bitKind b) := by
  cases b <;> rfl

theorem framePlan_eq_marks (t : PerKind U32) (pkt : BitVec 80) (n : Nat) :
    framePlan t pkt n = (frameKinds (packetBits pkt n)).flatMap (mark t) := by
  have hbits : (packetBits pkt n).flatMap (planBit t) = ((packetBits pkt n).map bitKind).flatMap (mark t) := by
    rw [List.flatMap_map]
    exact List.flatMap_congr fun b _ => planBit_eq_mark t b
  rw [framePlan, hbits]
  simp [frameKinds, planPreamble, planTerm, mark, PerKind.get]

theorem plan_eq_marks (t : PerKind U32) (pkt : BitVec 80) (n reps : Nat) :
    plan t pkt n reps = (planKinds (packetBits pkt n) reps).flatMap (mark t) := by
  unfold plan planKinds
  induction reps with
  | zero => rfl
  | succ reps ih =>
    rw [List.replicate_succ, List.replicate_succ, List.flatten_cons, List.flatten_cons, List.flatMap_append, ih,
      framePlan_eq_marks]

@[simp] theorem packetBits_length (pkt : BitVec 80) (n : Nat) : (packetBits pkt n).length = n := by
  simp [packetBits]

theorem frameKinds_length (bits : List Bool) : (frameKinds bits).length = bits.length + 4 := by
  simp [frameKinds]

theorem planKinds_length (bits : List Bool) (reps : Nat) :
    (planKinds bits reps).length = reps * (bits.length + 4) := by
  simp [planKinds, frameKinds_length]

/-! ## Rows of marks -/

section
variable (t : PerKind U32)

theorem marks_length (ks : List Kind) : (ks.flatMap (mark t)).length = 2 * ks.length := by
  induction ks with
  | nil => rfl
  | cons k ks ih =>
    rw [List.flatMap_cons, List.length_append, ih, List.length_cons]
    simp only [mark, List.length_cons, List.length_nil]
    omega

/-- Pulses stand at the even places and gaps at the odd ones (41_encoder.md R104). -/
theorem marks_alternate (ks : List Kind) (j : Nat) (g : Segment) (h : (ks.flatMap (mark t))[j]? = some g) :
    g.level = decide (j % 2 = 0) ∧ (g.level = true → g.dur = t.pulse) := by
  induction ks generalizing j with
  | nil => simp at h
  | cons k ks ih =>
    rw [List.flatMap_cons] at h
    match j with
    | 0 =>
      obtain rfl : ⟨true, t.pulse⟩ = g := Option.some.inj h
      exact ⟨rfl, fun _ => rfl⟩
    | 1 =>
      obtain rfl : ⟨false, t.get k⟩ = g := Option.some.inj h
      exact ⟨rfl, fun hl => nomatch hl⟩
    | j + 2 =>
      rw [Nat.add_mod_right]
      exact ih j h

/-- How long a row of segments lasts. -/
def totalTime (gs : List Segment) : Nat := (gs.map fun g => g.dur.toNat).sum

theorem totalTime_append (gs hs : List Segment) : totalTime (gs ++ hs) = totalTime gs + totalTime hs := by
  simp [totalTime]

theorem totalTime_planBits (bits : List Bool) :
    totalTime (bits.flatMap (planBit t)) =
      bits.length * t.pulse.toNat + (bits.length - bits.count true) * t.short.toNat +
        bits.count true * t.long.toNat := by
  induction bits with
  | nil => simp [totalTime]
  | cons b bits ih =>
    have hle := List.count_le_length (a := true) (l := bits)
    rw [List.flatMap_cons, totalTime_append, ih, List.length_cons]
    cases b
    · have hcount : bits.length + 1 - bits.count true = bits.length - bits.count true + 1 := by omega
      simp only [totalTime, planBit, List.map_cons, List.map_nil, List.sum_cons, List.sum_nil, Bool.false_eq_true,
        if_false, List.count_cons_of_ne Bool.false_ne_true, hcount]
      ring
    · have hcount : bits.length + 1 - (bits.count true + 1) = bits.length - bits.count true := by omega
      simp only [totalTime, planBit, List.map_cons, List.map_nil, List.sum_cons, List.sum_nil, if_true,
        List.count_cons_self, hcount]
      ring

/-- The frame duration (70_reset_and_hazards.md R261). -/
theorem totalTime_framePlan (pkt : BitVec 80) (n : Nat) :
    totalTime (framePlan t pkt n) =
      3 * t.pulse.toNat + 2 * t.syncGap.toNat + t.sync.toNat + n * t.pulse.toNat +
        (n - (packetBits pkt n).count true) * t.short.toNat + (packetBits pkt n).count true * t.long.toNat +
        t.pulse.toNat + t.gap.toNat := by
  have hpre : totalTime (planPreamble t) = 3 * t.pulse.toNat + 2 * t.syncGap.toNat + t.sync.toNat := by
    simp only [totalTime, planPreamble, List.map_cons, List.map_nil, List.sum_cons, List.sum_nil]
    ring
  have hterm : totalTime (planTerm t) = t.pulse.toNat + t.gap.toNat := by
    simp [totalTime, planTerm]
  rw [framePlan, totalTime_append, totalTime_append, hpre, hterm, totalTime_planBits, packetBits_length]
  omega

theorem totalTime_plan (pkt : BitVec 80) (n reps : Nat) :
    totalTime (plan t pkt n reps) = reps * totalTime (framePlan t pkt n) := by
  induction reps with
  | zero => rw [Nat.zero_mul]; rfl
  | succ reps ih =>
    have hsplit : plan t pkt n (reps + 1) = framePlan t pkt n ++ plan t pkt n reps := by
      simp [plan, List.replicate_succ]
    rw [hsplit, totalTime_append, ih, Nat.succ_mul, Nat.add_comm]

end

/-- Settles O47. -/
theorem planAlternatesAndLastsAsStated : Obligations.PlanAlternatesAndLastsAsStated := by
  intro t pkt n reps
  refine ⟨?length, fun j g h => ?_, ?time⟩
  case length =>
    rw [plan_eq_marks, marks_length, planKinds_length, packetBits_length]
    ring
  case time => exact (totalTime_plan t pkt n reps).trans (by rw [totalTime_framePlan])
  · rw [plan_eq_marks] at h
    exact marks_alternate t _ j g h

/-! ## What is left of a transmission -/

/-- The kinds of the gaps still to be handed over. -/
def Encoder.kindsLeft (e : Encoder) : List Kind :=
  let bits := packetBits e.sPkt e.sBits.toNat
  let later := planKinds bits (e.sReps.toNat - (e.repIdx.toNat + 1))
  match e.step with
  | .p1 | .sg1 => frameKinds bits ++ later
  | .p2 | .sg2 => .syncGap :: .sync :: (bits.map bitKind ++ [.gap]) ++ later
  | .p3 | .sy => .sync :: (bits.map bitKind ++ [.gap]) ++ later
  | .bp | .bg => (bits.drop e.bitIdx.toNat).map bitKind ++ [.gap] ++ later
  | .tp | .tg => .gap :: later

/-- The pairs still to be handed over; at a gap its pulse has gone already. -/
def Encoder.pairsLeft (t : PerKind U32) (e : Encoder) : List Segment :=
  if e.step.gapNext then (e.kindsLeft.flatMap (mark t)).tail else e.kindsLeft.flatMap (mark t)

theorem Encoder.kindsLeft_ne_nil (e : Encoder) : e.kindsLeft ≠ [] := by
  unfold Encoder.kindsLeft
  cases e.step <;> simp [frameKinds]

/-- The pulse of a mark. -/
theorem Encoder.pairsLeft_of_pulse (t : PerKind U32) {e : Encoder} (h : e.step.gapNext = false) :
    e.pairsLeft t = e.pair t :: e.next.pairsLeft t := by
  have hkinds : e.next.kindsLeft = e.kindsLeft := by
    unfold Encoder.next
    cases hstep : e.step
    case p1 | p2 | p3 | bp | tp => simp only [Encoder.kindsLeft, hstep]
    all_goals simp [SeqPos.gapNext, hstep] at h
  have hpair : e.pair t = ⟨true, t.pulse⟩ := by
    unfold Encoder.pair
    cases hstep : e.step
    case p1 | p2 | p3 | bp | tp => rfl
    all_goals simp [SeqPos.gapNext, hstep] at h
  obtain ⟨k, ks, hcons⟩ := List.exists_cons_of_ne_nil e.kindsLeft_ne_nil
  rw [Encoder.pairsLeft, Encoder.pairsLeft, Encoder.next_gapNext, h, hkinds, hcons, hpair]
  rfl

theorem succ_toNat_of_lt {a b : BitVec 7} (h : a.toNat + 1 < b.toNat) : (a + 1#7).toNat = a.toNat + 1 := by
  have := b.isLt
  rw [BitVec.toNat_add]
  exact Nat.mod_eq_of_lt (by simp; omega)

/-- The gap of a mark. -/
theorem Encoder.kindsLeft_of_gap (t : PerKind U32) {e : Encoder} (hrange : e.InRange) (h : e.step.gapNext = true) :
    ∃ k, e.pair t = ⟨false, t.get k⟩ ∧ e.kindsLeft = k :: if e.finishing then [] else e.next.kindsLeft := by
  obtain ⟨hrep, hbit, hpre⟩ := hrange
  unfold Encoder.next Encoder.pair Encoder.finishing
  cases hstep : e.step
  case sg1 | sg2 => exact ⟨.syncGap, rfl, by simp [Encoder.kindsLeft, hstep, frameKinds]⟩
  case sy =>
    have hzero : e.bitIdx = 0 := hpre (by rw [hstep]; rfl)
    exact ⟨.sync, rfl, by simp [Encoder.kindsLeft, hstep, hzero]⟩
  case bg =>
    have hlen : e.bitIdx.toNat < (packetBits e.sPkt e.sBits.toNat).length := by rwa [packetBits_length]
    have hget : (packetBits e.sPkt e.sBits.toNat)[e.bitIdx.toNat] = packetBit e.sPkt e.bitIdx.toNat := by
      simp [packetBits]
    refine ⟨bitKind (packetBit e.sPkt e.bitIdx.toNat), ?_, ?_⟩
    · cases hb : packetBit e.sPkt e.bitIdx.toNat <;> rfl
    · by_cases hmore : e.bitIdx.toNat + 1 < e.sBits.toNat
      · simp [Encoder.kindsLeft, hstep, hmore, succ_toNat_of_lt hmore, List.drop_eq_getElem_cons hlen, hget,
          -BitVec.toNat_add]
      · have hend : (packetBits e.sPkt e.sBits.toNat).drop (e.bitIdx.toNat + 1) = [] :=
          List.drop_eq_nil_of_le (by rw [packetBits_length]; omega)
        simp [Encoder.kindsLeft, hstep, hmore, List.drop_eq_getElem_cons hlen, hget, hend]
  case tg =>
    refine ⟨.gap, rfl, ?_⟩
    by_cases hmore : e.repIdx.toNat + 1 < e.sReps.toNat
    · have hcount : e.sReps.toNat - (e.repIdx.toNat + 1) = e.sReps.toNat - (e.repIdx.toNat + 1 + 1) + 1 := by omega
      have hlater : planKinds (packetBits e.sPkt e.sBits.toNat) (e.sReps.toNat - (e.repIdx.toNat + 1)) =
          frameKinds (packetBits e.sPkt e.sBits.toNat) ++
            planKinds (packetBits e.sPkt e.sBits.toNat) (e.sReps.toNat - (e.repIdx.toNat + 1 + 1)) := by
        rw [hcount, planKinds, List.replicate_succ]
        rfl
      simp [Encoder.kindsLeft, hstep, hmore, succ_toNat_of_lt hmore, hlater, -BitVec.toNat_add]
    · have hcount : e.sReps.toNat - (e.repIdx.toNat + 1) = 0 := by omega
      simp [Encoder.kindsLeft, hstep, hmore, hcount, planKinds]
  all_goals simp [SeqPos.gapNext, hstep] at h

/-- One step hands over the first of the pairs left (41_encoder.md R105). -/
theorem Encoder.pairsLeft_eq (t : PerKind U32) {e : Encoder} (hrange : e.InRange) :
    e.pairsLeft t = e.pair t :: if e.finishing then [] else e.next.pairsLeft t := by
  cases hgap : e.step.gapNext with
  | false =>
    have hfin : e.finishing = false := by
      unfold Encoder.finishing
      cases hstep : e.step <;> simp [SeqPos.gapNext, hstep] at hgap ⊢
    rw [Encoder.pairsLeft_of_pulse t hgap, hfin]
    rfl
  | true =>
    obtain ⟨k, hpair, hkinds⟩ := Encoder.kindsLeft_of_gap t hrange hgap
    rw [Encoder.pairsLeft, Encoder.pairsLeft, Encoder.next_gapNext, hgap, hkinds, hpair]
    cases e.finishing <;> rfl

/-- A transmission at its start has the whole plan to hand over. -/
theorem Encoder.pairsLeft_of_start (t : PerKind U32) {e : Encoder} (hstep : e.step = .p1) (hrep : e.repIdx = 0)
    (hreps : 1 ≤ e.sReps.toNat) : e.pairsLeft t = plan t e.sPkt e.sBits.toNat e.sReps.toNat := by
  have hcount : e.sReps.toNat = e.sReps.toNat - 1 + 1 := by omega
  rw [plan_eq_marks, hcount]
  simp [Encoder.pairsLeft, Encoder.kindsLeft, hstep, hrep, SeqPos.gapNext, planKinds, List.replicate_succ]

/-! ## The run of the sequencer -/

theorem run_zero (s : State) : Host.Core.run core 0 s = .next s := rfl

theorem run_succ {s t : State} (h : step s = .next t) (m : Nat) :
    Host.Core.run core (m + 1) s = Host.Core.run core m t := by
  have hcore : core.step s = .next t := h
  simp only [Host.Core.run, hcore]

theorem run_one {s t : State} (h : step s = .next t) : Host.Core.run core 1 s = .next t := run_succ h 0

theorem run_add {s t : State} {m : Nat} (h : Host.Core.run core m s = .next t) (n : Nat) :
    Host.Core.run core (m + n) s = Host.Core.run core n t := by
  induction m generalizing s with
  | zero =>
    injection h with h
    rw [Nat.zero_add, h]
  | succ m ih =>
    obtain ⟨u, hu⟩ := nothingStopsTheBlock.2 s
    rw [run_succ hu] at h
    rw [Nat.succ_add, run_succ hu, ih h]

theorem Encoder.finishing_iff_next_idle {e : Encoder} (hbusy : e.encState = .busy) :
    e.finishing = true ↔ e.next.encState = .idle := by
  unfold Encoder.finishing Encoder.next
  cases hstep : e.step
  case bg => dsimp only; split <;> simp [hbusy]
  case tg => dsimp only; split <;> simp_all
  all_goals simp [hbusy]

/-- A step of a Busy block with no input to come. -/
theorem step_of_busy_next {s : State} (hp : s.pending = []) (hbusy : s.enc.encState = .busy) :
    ∃ u, step s = .next u ∧ u.txs = s.txs ++ [s.enc.pair s.lut] ∧ u.enc = s.enc.next ∧
      (s.enc.finishing = true → u.io.txDone = true) ∧ u = { s with txs := u.txs, enc := u.enc, io := u.io } := by
  have hstep := step_of_busy hp hbusy
  rw [exec_seqStep, seqOp_of_busy (s := quietPort s) hbusy] at hstep
  refine ⟨_, hstep, rfl, rfl, fun hfin => ?_, rfl⟩
  exact Bool.or_eq_true_iff.2 (.inl hfin)

/-- A Busy block with no input to come hands over the pairs left, one a step (41_encoder.md R105 to R107). -/
theorem run_pairsLeft (m : Nat) {s : State} (hp : s.pending = []) (hbusy : s.enc.encState = .busy)
    (hrange : s.enc.InRange) (hlen : (s.enc.pairsLeft s.lut).length = m) :
    ∃ t, Host.Core.run core m s = .next t ∧ t.txs = s.txs ++ s.enc.pairsLeft s.lut ∧ t.enc.encState = .idle ∧
      t.io.txDone = true ∧ t = { s with txs := t.txs, enc := t.enc, io := t.io } := by
  induction m generalizing s with
  | zero =>
    rw [Encoder.pairsLeft_eq s.lut hrange] at hlen
    cases hlen
  | succ m ih =>
    have hleft := Encoder.pairsLeft_eq s.lut hrange
    obtain ⟨u, hstep, htxs, henc, hdone, hu⟩ := step_of_busy_next hp hbusy
    rw [run_succ hstep]
    rcases Encoder.next_inRange hrange hbusy with ⟨hidle, _⟩ | ⟨hstill, hrange'⟩
    · have hfin := (Encoder.finishing_iff_next_idle hbusy).2 hidle
      rw [hfin, if_pos rfl] at hleft
      rw [hleft] at hlen
      obtain rfl : m = 0 := (Nat.succ.inj hlen).symm
      exact ⟨u, run_zero u, by rw [hleft, htxs], by rw [henc, hidle], hdone hfin, hu⟩
    · have hfin : s.enc.finishing = false := by
        rw [Bool.eq_false_iff, ne_eq, Encoder.finishing_iff_next_idle hbusy, hstill]
        decide
      have hlut : u.lut = s.lut := by rw [hu]
      rw [hfin, if_neg Bool.false_ne_true] at hleft
      rw [hleft, List.length_cons, ← henc, ← hlut] at hlen
      rw [← henc] at hstill hrange'
      obtain ⟨t, hrun, htxs', hidle, hdone', ht⟩ := ih (by rw [hu, hp]) hstill hrange' (Nat.succ.inj hlen)
      refine ⟨t, hrun, ?_, hidle, hdone', by rw [ht, hu]⟩
      rw [htxs', htxs, hleft, hlut, henc, List.append_assoc]
      rfl

/-- Settles O46: at the start the pairs left are the plan. -/
theorem sequencerEmitsThePlan : Obligations.SequencerEmitsThePlan := by
  intro s hp hbusy hstep hrep hbit hbits _ hreps
  have hrange : s.enc.InRange :=
    ⟨by rw [hrep]; exact hreps, by rw [hbit]; exact hbits, fun _ => hbit⟩
  have hplan := Encoder.pairsLeft_of_start s.lut hstep hrep hreps
  have hlen := (planAlternatesAndLastsAsStated s.lut s.enc.sPkt s.enc.sBits.toNat s.enc.sReps.toNat).1
  rw [← hplan] at hlen ⊢
  exact run_pairsLeft _ hp hbusy hrange hlen

end Sys2Proof.Machine

/-! # Proofs: the round trip

A receiver hears the ideal edges of a plan (43_decoder.md R158): one event for each pair, each frame accepted by the Gap
that follows it, the last one by the watchdog. -/

namespace Sys2Proof.Machine

/-! ## A receiver at work -/

/-- The block in the midst of the ideal edges: the pairs `gs` are still to come after the transition at time `now`, the
decoder stands at `d`, the packet stream at `outs`; `s0` is the block at the start. -/
structure Hearing (s0 : State) (now : Nat) (gs : List Segment) (d : Decoder) (outs : List OutRecord) (s : State) :
    Prop where
  session : s.session = .running
  cfg : s.cfg = s0.cfg
  deploy : s.deploy = s0.deploy
  encIdle : s.enc.encState = .idle
  rx : s.rx = { rxEn := true, wdArmed := true, prevTs := BitVec.ofNat 32 now, prevValid := true }
  idle : s.idle = 0
  dec : s.dec = d
  out : s.out = outs
  viol : s.cnt.viol = s0.cnt.viol
  lenMiss : s.cnt.lenMiss = s0.cnt.lenMiss
  pending : s.pending = edgesAfter now gs

section
variable {s0 s : State} {now : Nat} {gs : List Segment} {g : Segment} {d d' : Decoder} {outs outs' : List OutRecord}

theorem Hearing.setDec (h : Hearing s0 now gs d outs s) (d' : Decoder) :
    Hearing s0 now gs d' outs { s with dec := d' } :=
  { h with dec := rfl }

/-- The distance of two transitions, modulo 2^32 (42_classifier.md R120). -/
theorem duration_ofNat (now : Nat) (w : U32) :
    duration (BitVec.ofNat 32 (now + w.toNat)) (BitVec.ofNat 32 now) = w := by
  rw [duration, BitVec.ofNat_add, BitVec.ofNat_toNat, BitVec.setWidth_eq, BitVec.add_comm]
  exact BitVec.add_sub_cancel ..

/-- The block when an input has come and its time has passed (log 1, log 2). -/
def inputTaken (delay : Nat) (rest : List Stimulus) (s : State) : State :=
  { quietPort s with pending := rest, idle := s.idle + delay }

/-- A step with an edge to come that the watchdog lets through. -/
theorem step_of_edge {delay : Nat} {l : Bool} {ts : U32} {rest : List Stimulus}
    (hp : s.pending = { delay := delay, word := encode (.edge l ts) } :: rest)
    (hdue : ¬(s.wdReady = true ∧ s.cfg.wdUs.toNat < s.idle + delay)) :
    step s = .next (edgeOp l ts (inputTaken delay rest s)) := by
  rw [step_of_input hp hdue, decode_encode _ _ rfl rfl, exec_edge]
  rfl

/-- The transition that ends a pair is one event of its length (42_classifier.md R120). -/
theorem Hearing.step_edge (h : Hearing s0 now (g :: gs) d outs s) (hw : g.dur.toNat ≤ s0.cfg.wdUs.toNat) :
    ∃ u, Hearing s0 (now + g.dur.toNat) gs d outs u ∧
      step s =
        .next (if g.level then evPulse g.dur u else evInterval (s0.cfg.classify g.dur) g.dur u) := by
  have hdue : ¬(s.wdReady = true ∧ s.cfg.wdUs.toNat < s.idle + g.dur.toNat) := by
    rintro ⟨_, hlate⟩
    rw [h.cfg, h.idle] at hlate
    omega
  have hdur : duration (BitVec.ofNat 32 (now + g.dur.toNat)) s.rx.prevTs = g.dur := by
    rw [h.rx]
    exact duration_ofNat now g.dur
  have hedge := edgeOp_of_later (s := inputTaken g.dur.toNat (edgesAfter (now + g.dur.toNat) gs) s) (!g.level)
    (BitVec.ofNat 32 (now + g.dur.toNat)) h.session (congrArg (·.rxEn) h.rx) (congrArg (·.prevValid) h.rx)
  refine ⟨edgeTaken (BitVec.ofNat 32 (now + g.dur.toNat))
    (inputTaken g.dur.toNat (edgesAfter (now + g.dur.toNat) gs) s), ?_, ?_⟩
  · exact
      { session := h.session, cfg := h.cfg, deploy := h.deploy, encIdle := h.encIdle, idle := rfl, dec := h.dec,
        out := h.out, viol := h.viol, lenMiss := h.lenMiss, pending := rfl
        rx := by simp only [edgeTaken, inputTaken, quietPort, h.rx] }
  · rw [step_of_edge h.pending hdue, hedge]
    simp only [inputTaken, quietPort, hdur, h.cfg]
    cases g.level <;> rfl

end

/-! ## Frames -/

/-- A frame but for the gap that ends it. -/
def openFrame (t : PerKind U32) (pkt : BitVec 80) (n : Nat) : List Segment :=
  planPreamble t ++ (packetBits pkt n).flatMap (planBit t) ++ [⟨true, t.pulse⟩]

theorem framePlan_eq_openFrame (t : PerKind U32) (pkt : BitVec 80) (n : Nat) :
    framePlan t pkt n = openFrame t pkt n ++ [⟨false, t.gap⟩] := by
  simp [framePlan, openFrame, planTerm]

theorem plan_succ (t : PerKind U32) (pkt : BitVec 80) (n reps : Nat) :
    plan t pkt n (reps + 1) = plan t pkt n reps ++ framePlan t pkt n := by
  simp [plan, List.replicate_succ']

/-! ## What the decoder makes of the pairs -/

/-- The decoder after a pulse in turn (43_decoder.md R138). -/
def Decoder.pulse (w : U32) (d : Decoder) : Decoder :=
  { d with sumPulse := addSum d.sumPulse w, cntPulse := satInc d.cntPulse, phase := .expectInterval }

/-- The decoder after a SyncGap in turn (43_decoder.md R140). -/
def Decoder.syncGap (d : Decoder) : Decoder := { d with phase := .expectPulse, syncCount := d.syncCount + 1 }

/-- The decoder after the Sync of a complete preamble (43_decoder.md R141). -/
def Decoder.sync (d : Decoder) : Decoder :=
  { d with phase := .expectPulse, state := .dataCollect, bitCount := 0, code := 0, syncCount := 0 }

/-- The decoder after the gap of a data bit (43_decoder.md R142, R143). -/
def Decoder.bitGap (t : PerKind U32) (b : Bool) (d : Decoder) : Decoder :=
  let d := { d with phase := .expectPulse, bitCount := satInc d.bitCount, code := shiftIn d.code b }
  if b then { d with sumLong := addSum d.sumLong t.long, cntLong := satInc d.cntLong }
  else { d with sumShort := addSum d.sumShort t.short, cntShort := satInc d.cntShort }

/-- The decoder after a preamble. -/
def preambleHeard (t : PerKind U32) : Decoder :=
  (((((Decoder.resetState.pulse t.pulse).syncGap).pulse t.pulse).syncGap).pulse t.pulse).sync

/-- The decoder after a preamble and data bits. -/
def bitsHeard (t : PerKind U32) (bits : List Bool) (d : Decoder) : Decoder :=
  bits.foldl (fun d b => (d.pulse t.pulse).bitGap t b) d

/-- The decoder at the gap that ends a frame. -/
def frameHeard (t : PerKind U32) (bits : List Bool) : Decoder := (bitsHeard t bits (preambleHeard t)).pulse t.pulse

theorem bitGap_phase (t : PerKind U32) (b : Bool) (d : Decoder) : (d.bitGap t b).phase = .expectPulse := by
  cases b <;> rfl

theorem bitGap_state (t : PerKind U32) (b : Bool) (d : Decoder) : (d.bitGap t b).state = d.state := by
  cases b <;> rfl

theorem bitsHeard_position (t : PerKind U32) (bits : List Bool) {d : Decoder} (hphase : d.phase = .expectPulse)
    (hstate : d.state = .dataCollect) :
    (bitsHeard t bits d).phase = .expectPulse ∧ (bitsHeard t bits d).state = .dataCollect := by
  induction bits generalizing d with
  | nil => exact ⟨hphase, hstate⟩
  | cons b bits ih =>
    exact ih (bitGap_phase t b _) ((bitGap_state t b _).trans hstate)

/-- What a decoder has counted after a preamble and data bits (43_decoder.md R138, R142, R143; 20_memory.md R42). -/
structure Tally (t : PerKind U32) (bits : List Bool) (d : Decoder) : Prop where
  code : d.code.toNat = bitsToNat bits
  bitCount : d.bitCount.toNat = bits.length
  cntPulse : d.cntPulse.toNat = bits.length + 3
  sumPulse : d.sumPulse.toNat = (bits.length + 3) * t.pulse.toNat
  cntShort : d.cntShort.toNat = bits.count false
  sumShort : d.sumShort.toNat = bits.count false * t.short.toNat
  cntLong : d.cntLong.toNat = bits.count true
  sumLong : d.sumLong.toNat = bits.count true * t.long.toNat

theorem tally_preambleHeard (t : PerKind U32) : Tally t [] (preambleHeard t) := by
  have hsum : (preambleHeard t).sumPulse = addSum (addSum (addSum 0 t.pulse) t.pulse) t.pulse := rfl
  have hw := t.pulse.isLt
  refine ⟨rfl, rfl, rfl, ?_, rfl, by simp [preambleHeard]; rfl, rfl, ?_⟩
  · rw [hsum, addSum_toNat, addSum_toNat, addSum_toNat]
    simp
    omega
  · simp
    rfl

/-- A sum to which another duration is added while it is far below 2^40. -/
theorem addSum_toNat_mul {sum : BitVec 40} {n : Nat} {w : U32} (h : sum.toNat = n * w.toNat) (hn : n < 255) :
    (addSum sum w).toNat = (n + 1) * w.toNat := by
  have hw := w.isLt
  have hbound : n * w.toNat ≤ 254 * w.toNat := Nat.mul_le_mul_right _ (by omega)
  rw [addSum_toNat, h, Nat.succ_mul]
  exact Nat.mod_eq_of_lt (by omega)

theorem satInc_toNat_of_eq {c : BitVec 8} {n : Nat} (h : c.toNat = n) (hn : n < 255) : (satInc c).toNat = n + 1 := by
  rw [satInc_toNat, h]
  omega

theorem bitsToNat_lt (bits : List Bool) : bitsToNat bits < 2 ^ bits.length := by
  have h := foldl_bits_lt bits 0 0 (by decide)
  rwa [Nat.zero_add] at h

theorem bitsToNat_append_singleton (bits : List Bool) (b : Bool) :
    bitsToNat (bits ++ [b]) = 2 * bitsToNat bits + b.toNat := by
  simp [bitsToNat]

/-- One more data bit. -/
theorem Tally.planBit {t : PerKind U32} {bits : List Bool} {d : Decoder} (h : Tally t bits d) (hlen : bits.length < 80)
    (b : Bool) : Tally t (bits ++ [b]) ((d.pulse t.pulse).bitGap t b) := by
  have hcode : (shiftIn d.code b).toNat = bitsToNat (bits ++ [b]) := by
    have hlt := bitsToNat_lt (bits ++ [b])
    rw [List.length_append, List.length_singleton] at hlt
    rw [shiftIn_toNat, h.code, ← bitsToNat_append_singleton]
    exact Nat.mod_eq_of_lt (Nat.lt_of_lt_of_le hlt (Nat.pow_le_pow_right (by decide) hlen))
  have hbits : (satInc d.bitCount).toNat = (bits ++ [b]).length := by
    rw [satInc_toNat_of_eq h.bitCount (by omega)]
    simp
  have hcnt : (satInc d.cntPulse).toNat = (bits ++ [b]).length + 3 := by
    rw [satInc_toNat_of_eq h.cntPulse (by omega)]
    simp
  have hsum : (addSum d.sumPulse t.pulse).toNat = ((bits ++ [b]).length + 3) * t.pulse.toNat := by
    rw [addSum_toNat_mul h.sumPulse (by omega)]
    simp
  have hshort := List.count_le_length (a := false) (l := bits)
  have hlong := List.count_le_length (a := true) (l := bits)
  cases b
  · have hfalse : (bits ++ [false]).count false = bits.count false + 1 := by simp
    have htrue : (bits ++ [false]).count true = bits.count true := by simp
    exact
      { code := hcode, bitCount := hbits, cntPulse := hcnt, sumPulse := hsum
        cntShort := by rw [hfalse]; exact satInc_toNat_of_eq h.cntShort (by omega)
        sumShort := by rw [hfalse]; exact addSum_toNat_mul h.sumShort (by omega)
        cntLong := by rw [htrue]; exact h.cntLong
        sumLong := by rw [htrue]; exact h.sumLong }
  · have hfalse : (bits ++ [true]).count false = bits.count false := by simp
    have htrue : (bits ++ [true]).count true = bits.count true + 1 := by simp
    exact
      { code := hcode, bitCount := hbits, cntPulse := hcnt, sumPulse := hsum
        cntShort := by rw [hfalse]; exact h.cntShort
        sumShort := by rw [hfalse]; exact h.sumShort
        cntLong := by rw [htrue]; exact satInc_toNat_of_eq h.cntLong (by omega)
        sumLong := by rw [htrue]; exact addSum_toNat_mul h.sumLong (by omega) }

theorem tally_bitsHeard (t : PerKind U32) (bits : List Bool) (hlen : bits.length ≤ 80) :
    Tally t bits (bitsHeard t bits (preambleHeard t)) := by
  induction bits using List.reverseRecOn with
  | nil => exact tally_preambleHeard t
  | append_singleton bits b ih =>
    rw [List.length_append, List.length_singleton] at hlen
    have hstep : bitsHeard t (bits ++ [b]) (preambleHeard t) =
        ((bitsHeard t bits (preambleHeard t)).pulse t.pulse).bitGap t b := by
      simp [bitsHeard]
    rw [hstep]
    exact (ih (by omega)).planBit (by omega) b

/-- Every duration of the plan is within `WD_US` and every gap in the band of its kind. -/
def Audible (c : Cfg) (t : PerKind U32) : Prop :=
  t.pulse.toNat ≤ c.wdUs.toNat ∧
    ∀ k : Kind, k ≠ .pulse → (t.get k).toNat ≤ c.wdUs.toNat ∧ c.classify (t.get k) = some k

/-- The pairs `gs` take the decoder from `d` to `d'` and the packet stream from `outs` to `outs'`, a step a pair. -/
def HeardAs (s0 : State) (gs : List Segment) (d : Decoder) (outs : List OutRecord) (d' : Decoder)
    (outs' : List OutRecord) : Prop :=
  ∀ (now : Nat) (rest : List Segment) (s : State), Hearing s0 now (gs ++ rest) d outs s →
    ∃ t, Host.Core.run core gs.length s = .next t ∧ Hearing s0 (now + totalTime gs) rest d' outs' t

section
variable {s0 : State} {gs hs : List Segment} {d d' d'' : Decoder} {outs outs' outs'' : List OutRecord}

theorem HeardAs.nil : HeardAs s0 [] d outs d outs := fun _ _ s h => ⟨s, run_zero s, h⟩

theorem HeardAs.append (hg : HeardAs s0 gs d outs d' outs') (hh : HeardAs s0 hs d' outs' d'' outs'') :
    HeardAs s0 (gs ++ hs) d outs d'' outs'' := by
  intro now rest s h
  rw [List.append_assoc] at h
  obtain ⟨u, hrun, hu⟩ := hg now (hs ++ rest) s h
  obtain ⟨t, hrun', ht⟩ := hh _ rest u hu
  refine ⟨t, ?_, ?_⟩
  · rw [List.length_append, run_add hrun, hrun']
  · rwa [totalTime_append, ← Nat.add_assoc]

/-- A pulse in turn. -/
theorem heardAs_pulse {w : U32} (hw : w.toNat ≤ s0.cfg.wdUs.toNat) (hphase : d.phase = .expectPulse) :
    HeardAs s0 [⟨true, w⟩] d outs (d.pulse w) outs := by
  intro now rest s h
  obtain ⟨u, hu, hstep⟩ := h.step_edge hw
  refine ⟨_, run_one hstep, ?_⟩
  have hpulse := evPulse_of_expectPulse w (s := u) (by rw [hu.dec, hphase])
  rw [if_pos rfl, hpulse, hu.dec]
  exact hu.setDec _

/-- A gap of a kind, of which only the decoder takes note. -/
theorem heardAs_gap {t : PerKind U32} (ht : Audible s0.cfg t) {k : Kind} (hk : k ≠ .pulse)
    (hevent : ∀ u, u.dec = d → evInterval (some k) (t.get k) u = { u with dec := d' }) :
    HeardAs s0 [⟨false, t.get k⟩] d outs d' outs := by
  intro now rest s h
  obtain ⟨hw, hclass⟩ := ht.2 k hk
  obtain ⟨u, hu, hstep⟩ := h.step_edge hw
  refine ⟨_, run_one hstep, ?_⟩
  rw [if_neg Bool.false_ne_true, hclass, hevent u hu.dec]
  exact hu.setDec _

section
variable {t : PerKind U32} (ht : Audible s0.cfg t) (hphase : d.phase = .expectInterval)
include ht hphase

theorem heardAs_syncGap (hstate : d.state = .syncWait) (hsync : d.syncCount ≠ 2) :
    HeardAs s0 [⟨false, t.syncGap⟩] d outs d.syncGap outs := by
  refine heardAs_gap ht (k := .syncGap) (by decide) ?_
  rintro u rfl
  exact evInterval_syncGap _ hphase hstate hsync

theorem heardAs_sync (hstate : d.state = .syncWait) (hsync : d.syncCount = 2) :
    HeardAs s0 [⟨false, t.sync⟩] d outs d.sync outs := by
  refine heardAs_gap ht (k := .sync) (by decide) ?_
  rintro u rfl
  exact evInterval_sync _ hphase hstate hsync

theorem heardAs_bitGap (hstate : d.state = .dataCollect) (b : Bool) :
    HeardAs s0 [⟨false, if b then t.long else t.short⟩] d outs (d.bitGap t b) outs := by
  cases b
  · refine heardAs_gap ht (k := .short) (by decide) ?_
    rintro u rfl
    exact evInterval_short _ hphase hstate
  · refine heardAs_gap ht (k := .long) (by decide) ?_
    rintro u rfl
    exact evInterval_long _ hphase hstate

end

end

section
variable {s0 : State} {t : PerKind U32} (ht : Audible s0.cfg t) {outs : List OutRecord}
include ht

theorem heardAs_preamble : HeardAs s0 (planPreamble t) .resetState outs (preambleHeard t) outs :=
  ((heardAs_pulse ht.1 rfl).append <| (heardAs_syncGap ht rfl rfl (by decide : (0#2) ≠ 2)).append <|
    (heardAs_pulse ht.1 rfl).append <| (heardAs_syncGap ht rfl rfl (by decide : (1#2) ≠ 2)).append <|
      (heardAs_pulse ht.1 rfl).append <| heardAs_sync ht rfl rfl rfl)

theorem heardAs_planBit {d : Decoder} (hphase : d.phase = .expectPulse) (hstate : d.state = .dataCollect) (b : Bool) :
    HeardAs s0 (planBit t b) d outs ((d.pulse t.pulse).bitGap t b) outs :=
  (heardAs_pulse ht.1 hphase).append (heardAs_bitGap (d := d.pulse t.pulse) ht rfl hstate b)

theorem heardAs_planBits (bits : List Bool) {d : Decoder} (hphase : d.phase = .expectPulse)
    (hstate : d.state = .dataCollect) :
    HeardAs s0 (bits.flatMap (planBit t)) d outs (bitsHeard t bits d) outs := by
  induction bits generalizing d with
  | nil => exact HeardAs.nil
  | cons b bits ih =>
    exact (heardAs_planBit ht hphase hstate b).append (ih (bitGap_phase t b _) ((bitGap_state t b _).trans hstate))

theorem heardAs_openFrame (pkt : BitVec 80) (n : Nat) :
    HeardAs s0 (openFrame t pkt n) .resetState outs (frameHeard t (packetBits pkt n)) outs :=
  ((heardAs_preamble ht).append (heardAs_planBits ht _ rfl rfl)).append
    (heardAs_pulse ht.1 (bitsHeard_position t _ rfl rfl).1)

end

/-! ## Acceptance -/

/-- The record of a frame under the configuration of `s0`. -/
def frameRecord (s0 : State) (t : PerKind U32) (bits : List Bool) : OutRecord :=
  acceptRecord { s0 with dec := frameHeard t bits }

/-- The average of `n` equal durations. -/
theorem average_of_mul {sum : BitVec 40} {cnt : BitVec 8} {n : Nat} {w : U32} (hcnt : cnt.toNat = n)
    (hsum : sum.toNat = n * w.toNat) : average sum cnt = if n = 0 then 0 else w := by
  by_cases hn : n = 0
  · have hzero : cnt = 0 := BitVec.eq_of_toNat_eq (by rw [hcnt, hn]; rfl)
    rw [average, if_pos hzero, if_pos hn]
  · have hne : cnt ≠ 0 := by
      rintro rfl
      exact hn hcnt.symm
    rw [average, if_neg hne, if_neg hn, hcnt, hsum, Nat.mul_div_cancel_left _ (Nat.pos_of_ne_zero hn),
      BitVec.ofNat_toNat, BitVec.setWidth_eq]

theorem ite_count_eq_zero {α : Type} (bits : List Bool) (b : Bool) (x y : α) :
    (if bits.count b = 0 then x else y) = if b ∈ bits then y else x := by
  simp only [List.count_eq_zero, ite_not]

/-- The record holds the bits and the durations of the frame (43_decoder.md R148, R158). -/
theorem frameRecord_eq (s0 : State) (t : PerKind U32) (bits : List Bool) (hlen : bits.length ≤ 80) :
    (frameRecord s0 t bits).code.toNat = bitsToNat bits ∧ (frameRecord s0 t bits).bits.toNat = bits.length ∧
      (frameRecord s0 t bits).avgPulse = t.pulse ∧
      (frameRecord s0 t bits).avgShort = (if false ∈ bits then t.short else 0) ∧
      (frameRecord s0 t bits).avgLong = (if true ∈ bits then t.long else 0) := by
  have h := tally_bitsHeard t bits hlen
  have hcnt := satInc_toNat_of_eq h.cntPulse (by omega)
  have hsum := addSum_toNat_mul h.sumPulse (by omega)
  exact ⟨h.code, h.bitCount, average_of_mul hcnt hsum,
    (average_of_mul h.cntShort h.sumShort).trans (ite_count_eq_zero ..),
    (average_of_mul h.cntLong h.sumLong).trans (ite_count_eq_zero ..)⟩

section
variable {s0 u : State} {t : PerKind U32} {bits : List Bool} (hdec : u.dec = frameHeard t bits)
include hdec

theorem acceptRecord_of_frameHeard (hcfg : u.cfg = s0.cfg) (hdeploy : u.deploy = s0.deploy) :
    acceptRecord u = frameRecord s0 t bits := by
  simp only [acceptRecord, frameRecord, hcfg, hdeploy, hdec]

/-- A Gap at the expected length (43_decoder.md R144). -/
theorem evInterval_gap_of_frameHeard (hlen : bits.length ≤ 80) (hbits : bits.length = u.cfg.expectedBits.toNat)
    (d : U32) : evInterval (some .gap) d u = decReset (accept u) := by
  refine evInterval_gap_of_bitCount_eq d ?_ ?_ ?_ <;> rw [hdec]
  · rfl
  · exact (bitsHeard_position t bits rfl rfl).2
  · rw [← hbits]
    exact (tally_bitsHeard t bits hlen).bitCount

end

section
variable {s0 u : State} {t : PerKind U32} {bits : List Bool} {outs : List OutRecord} {now : Nat} {gs : List Segment}

theorem Hearing.accept (h : Hearing s0 now gs (frameHeard t bits) outs u) :
    Hearing s0 now gs .resetState (outs ++ [frameRecord s0 t bits]) (decReset (accept u)) := by
  rw [accept_eq, acceptRecord_of_frameHeard h.dec h.cfg h.deploy, h.out]
  exact { h with dec := rfl, out := rfl }

variable (ht : Audible s0.cfg t)
include ht

theorem heardAs_frameGap (hlen : bits.length ≤ 80) (hbits : bits.length = s0.cfg.expectedBits.toNat) :
    HeardAs s0 [⟨false, t.gap⟩] (frameHeard t bits) outs .resetState (outs ++ [frameRecord s0 t bits]) := by
  intro now rest s h
  obtain ⟨hw, hclass⟩ := ht.2 .gap (by decide)
  obtain ⟨u, hu, hstep⟩ := h.step_edge hw
  refine ⟨_, run_one hstep, ?_⟩
  have hevent : evInterval (s0.cfg.classify t.gap) t.gap u = decReset (Machine.accept u) := by
    rw [show s0.cfg.classify t.gap = some .gap from hclass,
      evInterval_gap_of_frameHeard hu.dec hlen (by rw [hu.cfg, hbits])]
  rw [if_neg Bool.false_ne_true, hevent]
  exact hu.accept

end

section
variable {s0 : State} {t : PerKind U32} (ht : Audible s0.cfg t) (pkt : BitVec 80) {n : Nat} (hn : n ≤ 80)
  (hbits : n = s0.cfg.expectedBits.toNat)
include ht hn hbits

/-- Whole frames, each ended by its own gap. -/
theorem heardAs_plan (outs : List OutRecord) (reps : Nat) :
    HeardAs s0 (plan t pkt n reps) .resetState outs .resetState
      (outs ++ List.replicate reps (frameRecord s0 t (packetBits pkt n))) := by
  induction reps with
  | zero =>
    rw [List.replicate_zero, List.append_nil]
    exact HeardAs.nil
  | succ reps ih =>
    rw [plan_succ, framePlan_eq_openFrame, List.replicate_succ', ← List.append_assoc outs]
    exact ih.append ((heardAs_openFrame ht pkt n).append
      (heardAs_frameGap ht (by rw [packetBits_length]; exact hn) (by rw [packetBits_length]; exact hbits)))

end

/-! ## The run -/

section
variable {s : State}

/-- The block when the receiver is started afresh (45_host_control.md R199). -/
def rxStarted (s : State) : State :=
  decReset { s with rx := { s.rx with rxEn := true, prevValid := false, wdArmed := false } }

theorem step_of_rxStart {rest : List Stimulus} (hrun : s.session = .running) (hready : s.wdReady = false)
    (hp : s.pending = { delay := 0, word := encode .rxStart } :: rest) :
    step s = .next (rxStarted (inputTaken 0 rest s)) := by
  have hadm : ((inputTaken 0 rest s).session == .running) = true := beq_iff_eq.2 hrun
  rw [step_of_input hp (by simp [hready]), decode_encode _ _ rfl rfl, exec_rxStart]
  exact congrArg Host.Outcome.next (gated_of_true _ (inputTaken 0 rest s) hadm)

/-- The first transition is only recorded (42_classifier.md R120). -/
theorem step_of_firstEdge {l : Bool} {ts : U32} {rest : List Stimulus} (hrun : s.session = .running)
    (hen : s.rx.rxEn = true) (hprev : s.rx.prevValid = false) (harmed : s.rx.wdArmed = false)
    (hp : s.pending = { delay := 0, word := encode (.edge l ts) } :: rest) :
    step s = .next (edgeTaken ts (inputTaken 0 rest s)) := by
  have hready : ¬s.wdReady = true := by simp [wdReady_iff, harmed]
  rw [step_of_edge hp fun h => hready h.1]
  exact congrArg Host.Outcome.next (edgeOp_of_first (s := inputTaken 0 rest s) l ts hrun hen hprev)

/-- RX_START and the first transition. -/
theorem run_start {tau : Nat} {gs : List Segment} (hrun : s.session = .running) (hidle : s.enc.encState = .idle)
    (hready : s.wdReady = false)
    (hp : s.pending = { delay := 0, word := encode .rxStart } ::
      { delay := 0, word := encode (.edge true (BitVec.ofNat 32 tau)) } :: edgesAfter tau gs) :
    ∃ u, Host.Core.run core 2 s = .next u ∧ Hearing s tau gs .resetState s.out u := by
  have hstart := step_of_rxStart hrun hready hp
  have hfirst := step_of_firstEdge (s := rxStarted (inputTaken 0 _ s)) hrun rfl rfl rfl
    (rfl : _ = { delay := 0, word := encode (.edge true (BitVec.ofNat 32 tau)) } :: edgesAfter tau gs)
  refine ⟨_, (run_succ hstart 1).trans (run_one hfirst), ?_⟩
  exact
    { session := hrun, cfg := rfl, deploy := rfl, encIdle := hidle, rx := rfl, idle := rfl, dec := rfl
      out := by simp only [edgeTaken, inputTaken, quietPort, rxStarted, decReset]
      viol := rfl, lenMiss := rfl, pending := rfl }

/-- The watchdog accepts the last frame (43_decoder.md R151). -/
theorem step_last {s0 : State} {now : Nat} {t : PerKind U32} {bits : List Bool} {outs : List OutRecord}
    (h : Hearing s0 now [] (frameHeard t bits) outs s) (hlen : bits.length ≤ 80)
    (hbits : bits.length = s0.cfg.expectedBits.toNat) :
    ∃ u, step s = .next u ∧ u.out = outs ++ [frameRecord s0 t bits] ∧ u.cnt.viol = s0.cnt.viol ∧
      u.cnt.lenMiss = s0.cnt.lenMiss := by
  have hready : s.wdReady = true := by
    rw [wdReady_iff, h.rx, h.dec, h.cfg, ← hbits]
    exact ⟨h.session, rfl, rfl, (bitsHeard_position t bits rfl rfl).2, (tally_bitsHeard t bits hlen).bitCount⟩
  have hstep := step_of_wdReady h.pending h.encIdle hready
  have hwd : evWd (quietPort s) = decReset (accept (disarmed (quietPort s))) :=
    evInterval_gap_of_frameHeard (u := disarmed (quietPort s)) h.dec hlen (hbits.trans (by rw [← h.cfg]; rfl)) 0
  have hrecord : acceptRecord (disarmed (quietPort s)) = frameRecord s0 t bits :=
    acceptRecord_of_frameHeard h.dec h.cfg h.deploy
  rw [exec_evWd, hwd, accept_eq, hrecord] at hstep
  refine ⟨_, hstep, ?_, h.viol, h.lenMiss⟩
  rw [← h.out]
  rfl

/-- The bands hold the emitted gaps, so every pair is heard for what it is (42_classifier.md R125). -/
theorem audible_of_bands {c : Cfg} {t : PerKind U32} (hdisj : c.BandsDisjoint)
    (hpulse : t.pulse.toNat ≤ c.wdUs.toNat)
    (hgaps : ∀ k : Kind, k ≠ .pulse →
      (c.lo k).toNat ≤ (t.get k).toNat ∧ (t.get k).toNat ≤ (c.hi k).toNat ∧ (t.get k).toNat ≤ c.wdUs.toNat) :
    Audible c t := by
  refine ⟨hpulse, fun k hk => ?_⟩
  obtain ⟨hlo, hhi, hwd⟩ := hgaps k hk
  exact ⟨hwd, (Cfg.classify_eq_some_iff_of_disjoint hdisj hwd k).2 ⟨hlo, hhi⟩⟩

end

/-- Settles O48: all frames but the last are ended by their gaps, the last one by the watchdog. -/
theorem idealStreamRoundTrip : Obligations.IdealStreamRoundTrip := by
  intro s tau n reps hwf hrun hidle hn hreps hpulse hgaps hp hready
  have ht : Audible s.cfg s.lut := audible_of_bands hwf.bands hpulse hgaps
  have hmax : n ≤ 80 := hn ▸ hwf.expectedMax
  obtain ⟨m, rfl⟩ : ∃ m, reps = m + 1 := ⟨reps - 1, by omega⟩
  have hplan : plan s.lut s.enc.sPkt n (m + 1) =
      plan s.lut s.enc.sPkt n m ++ openFrame s.lut s.enc.sPkt n ++ [⟨false, s.lut.gap⟩] := by
    rw [plan_succ, framePlan_eq_openFrame, List.append_assoc]
  have hlength := (planAlternatesAndLastsAsStated s.lut s.enc.sPkt n (m + 1)).1
  rw [hplan, List.length_append, List.length_singleton] at hlength
  rw [idealEdges, hplan, List.dropLast_concat] at hp
  obtain ⟨u, hrunStart, hu⟩ := run_start hrun hidle hready hp
  rw [← List.append_nil (_ ++ openFrame _ _ _)] at hu
  obtain ⟨v, hrunPairs, hv⟩ :=
    (heardAs_plan ht s.enc.sPkt hmax hn s.out m).append (heardAs_openFrame ht s.enc.sPkt n) _ _ u hu
  obtain ⟨w, hlast, hout, hviol, hlenMiss⟩ :=
    step_last hv (by rwa [packetBits_length]) (by rwa [packetBits_length])
  have hsteps : (m + 1) * (2 * n + 8) + 2 =
      2 + ((plan s.lut s.enc.sPkt n m ++ openFrame s.lut s.enc.sPkt n).length + 1) := by omega
  have hrecord := frameRecord_eq s s.lut (packetBits s.enc.sPkt n) (by rwa [packetBits_length])
  rw [packetBits_length] at hrecord
  obtain ⟨hcode, hbits, hpulse, hshort, hlong⟩ := hrecord
  refine ⟨w, frameRecord s s.lut (packetBits s.enc.sPkt n), ?_, ?_, hcode, hbits, hpulse, hshort, hlong, hviol,
    hlenMiss⟩
  · rw [hsteps, run_add hrunStart, run_add hrunPairs, run_one hlast]
  · rw [hout, List.replicate_succ', List.append_assoc]

end Sys2Proof.Machine
